-- ==== Sys2Proof/Word.lean ====
section
/-! DEFINITION. The two word types of the machine: bytes (registers, memory cells) and 16-bit words (addresses, register pairs). -/

namespace Sys2Proof

/-- An 8-bit value (00_scope.md R10: "An 8-bit value is a *byte*"). -/
abbrev Byte := BitVec 8

/-- A 16-bit value: an address, a register pair, `SP` or `PC` (00_scope.md R8, R10). -/
abbrev Addr := BitVec 16

end Sys2Proof
end

