-- ==== Sys2Proof/Config.lean ====
section
/-! DEFINITION. The configuration record `cfg` of 00_scope.md R9, and the free values of the model: constants without a body, so
that nothing can be proved about which byte they are. -/

namespace Sys2Proof

/-- The cartridge ROM image `cfg.rom` (20_memory.md R88): `size` bytes, of which `bytes` lists the nonzero ones by rising offset.
An offset below `size` that is not listed holds 0x00; this is how an image is written down, not an assumption about it
(notes/assumptions/3.md). -/
structure RomImage where
  size  : Nat
  bytes : List Host.Cell
deriving DecidableEq, Repr

/-- Banking chip family `cfg.mapper` (00_scope.md R9, 20_memory.md R91). -/
inductive MapperKind where
  | unbanked
  | mbc1
  | mbc2
  | mbc3
  | mbc4
  | mbc5
  | unknown
deriving DecidableEq, Repr

/-- The interrupt vectors `cfg.vector[i]`, by source (60_exceptions.md R330). -/
structure Vectors where
  vblank    : Addr := 0x0040
  lcdStatus : Addr := 0x0048
  timer     : Addr := 0x0050
  serial    : Addr := 0x0058
  joypad    : Addr := 0x0060
deriving DecidableEq, Repr

/-- The configuration record of 00_scope.md R9, with the defaults the rule gives. `cycleOverrides` holds `cfg.cycles` as the
entries in which it differs from the table of 70_reset_and_hazards.md R376: (opcode key, (untaken, taken)), the key being the row's
`match` value in opcode_table.json (notes/assumptions/9.md). -/
structure Config where
  rom            : RomImage
  mapper         : MapperKind
  romBanks       : Nat
  xramSize       : Nat
  xramInit       : Option (List Byte) := none
  vramAttached   : Bool := false
  ioAttached     : Bool := false
  ifAddr         : Addr := 0xFF0F
  dmaAddr        : Addr := 0xFF46
  vectors        : Vectors := {}
  cycleOverrides : List (Nat × (Nat × Nat)) := []
deriving DecidableEq, Repr

/-- DESIGN CHOICE (unsafe, notes/assumptions/1.md): the configuration of `State.reset`, a blank 32 KiB image of zeros (the start
state of 95_test_vectors.md), with the mapper, bank count and RAM size that R91, R92 and R93 derive from its zero header. -/
def Config.blank : Config :=
  { rom := { size := 0x8000, bytes := [] }, mapper := .unbanked, romBanks := 2, xramSize := 0 }

/-- The four RAM arrays (10_state.md R34): which one an unwritten byte belongs to. -/
inductive RamArray where
  | wram
  | oam
  | hram
  | xram
deriving DecidableEq, Repr

/-- Free value: the power-on content of RAM byte `i` of an array. 10_state.md R36: "every byte is an arbitrary value the model must
not assume"; 93_implementation_defined.md U5 (notes/assumptions/2.md). -/
opaque Config.powerOnByte : RamArray → Nat → Byte

/-- Free value: the byte an attached video component answers to the `n`-th forwarded read, at an address. 20_memory.md R64, U8
(notes/assumptions/4.md). -/
opaque Config.vramByte : Nat → Addr → Byte

/-- Free value: the byte attached peripherals answer to the `n`-th forwarded read, at an address. 20_memory.md R71, U8
(notes/assumptions/4.md). -/
opaque Config.ioByte : Nat → Addr → Byte

end Sys2Proof
end

