-- ==== Sys2Proof/Machine/Memory.lean ====
section
/-! DEFINITION. Memory arrays as sparse lists in one canonical form: addresses strictly rising, one entry for each byte that has been
written. A byte that is not listed has no value of its own (`none`); what a read of it answers is decided in Machine/Ops.lean
(RAM: a free value) and Machine/Cartridge.lean (ROM image: 0x00). -/

namespace Sys2Proof.Machine

/-- A sparse array of bytes, keyed by the index in the array. -/
abbrev Memory := List Host.Cell

/-- The byte listed at an index. -/
def Memory.get : Memory → Nat → Option Byte
  | [], _ => none
  | (k, w) :: t, i => if i = k then some w else Memory.get t i

/-- Write one byte; keeps the canonical form. -/
def Memory.set : Memory → Nat → Byte → Memory
  | [], i, v => [(i, v)]
  | (k, w) :: t, i, v =>
    if i < k then (i, v) :: (k, w) :: t
    else if i = k then (i, v) :: t
    else (k, w) :: Memory.set t i v

/-- Remove the entry at an index. -/
def Memory.erase : Memory → Nat → Memory
  | [], _ => []
  | (k, w) :: t, i => if i = k then t else (k, w) :: Memory.erase t i

/-- The bytes of a list at consecutive indices from `i`. -/
def Memory.ofBytes : Nat → List Byte → Memory
  | _, [] => []
  | i, b :: t => (i, b) :: Memory.ofBytes (i + 1) t

/-- Indices strictly rising, all at least `lo`. -/
def Memory.risingFrom (lo : Nat) : Memory → Bool
  | [] => true
  | (k, _) :: t => decide (lo ≤ k) && Memory.risingFrom (k + 1) t

/-- The canonical form: strictly rising indices. -/
def Memory.wf (m : Memory) : Bool := Memory.risingFrom 0 m

/-- The canonical form with every index below `n`. -/
def Memory.wfBelow (n : Nat) (m : Memory) : Bool := m.wf && m.all (fun c => decide (c.1 < n))

end Sys2Proof.Machine
end

