-- ==== Sys2Proof/Machine/State.lean ====
section
/-! DEFINITION. The state of CORE (10_state.md), with the reset values of R36. Plain data. -/

namespace Sys2Proof.Machine

/-- No constructor: the block raises no synchronous exception ("No instruction traps, no access faults, nothing is "illegal"",
60_exceptions.md R340), so no step of the model ends in a fault. -/
inductive Fault where
deriving DecidableEq, Repr

/-- Refusals. -/
inductive Refusal where
  /-- An instruction without a meaning; raised by a refused arm of `exec` only. Safe. No arm raises it: every instruction has its
  meaning. -/
  | notModelled (mnemonic : String)
deriving DecidableEq, Repr

/-- The register file: seven general registers and `F` (10_state.md R20, R21), `SP` (R25) and `PC` (R24). -/
structure RegFile where
  a  : Byte
  b  : Byte
  c  : Byte
  d  : Byte
  e  : Byte
  h  : Byte
  l  : Byte
  f  : Byte
  sp : Addr
  pc : Addr
deriving DecidableEq, Repr

/-- MBC1 registers (20_memory.md R100), reset values as the rule gives them. -/
structure Mbc1 where
  ramEn : Bool := false
  bank1 : BitVec 5 := 1
  bank2 : BitVec 2 := 0
  mode  : BitVec 1 := 0
deriving DecidableEq, Repr

/-- MBC2 registers (20_memory.md R102). -/
structure Mbc2 where
  ramEn   : Bool := false
  romBank : BitVec 4 := 1
deriving DecidableEq, Repr

/-- MBC3 registers (20_memory.md R104). -/
structure Mbc3 where
  ramEn   : Bool := false
  romBank : BitVec 7 := 1
  sel     : BitVec 4 := 0
deriving DecidableEq, Repr

/-- MBC5 registers (20_memory.md R106). -/
structure Mbc5 where
  ramEn   : Bool := false
  romBank : BitVec 9 := 1
  ramBank : BitVec 4 := 0
deriving DecidableEq, Repr

/-- Mapper state (10_state.md R35): none without a banking chip; "With `cfg.mapper = None` there is no mapper state". -/
inductive MapperState where
  | unbanked
  | mbc1 (r : Mbc1)
  | mbc2 (r : Mbc2)
  | mbc3 (r : Mbc3)
  | mbc5 (r : Mbc5)
deriving DecidableEq, Repr

/-- The reset state of a family's registers (20_memory.md R96, R100 to R108). -/
def MapperState.initial : MapperKind → MapperState
  | .unbanked => .unbanked
  | .mbc1 => .mbc1 {}
  | .mbc2 => .mbc2 {}
  | .mbc3 => .mbc3 {}
  | .mbc4 => .unbanked
  | .mbc5 => .mbc5 {}
  | .unknown => .unbanked

/-- One anomaly record (60_exceptions.md R345). -/
inductive Anomaly where
  | unimplementedOpcode (opcode : Byte) (at_ : Addr)
  | unusableRead (a : Addr)
  | unusableWrite (a : Addr) (v : Byte)
  | unknownMapperCode (code : Byte)
  | unknownSizeCode (offset : Addr) (code : Byte)
deriving DecidableEq, Repr

/-- One transaction on a peripheral port (00_scope.md R7: `vram_rd`, `vram_wr`, `io_rd`, `io_wr`). -/
inductive PortEvent where
  | vramRead (a : Addr)
  | vramWrite (a : Addr) (v : Byte)
  | ioRead (a : Addr)
  | ioWrite (a : Addr) (v : Byte)
deriving DecidableEq, Repr

/-- The `outcome` port (00_scope.md R7, 46_system.md R306). -/
inductive Report where
  | handled
  | unimplemented (opcode : Byte) (pc : Addr)
deriving DecidableEq, Repr

/-- The state of the block. INVENTORY.md lists every field with the rule that names it. -/
structure State where
  regs       : RegFile
  ime        : Bool
  halted     : Bool
  imePending : Bool
  ie         : Byte
  ifr        : Byte
  dma        : Byte
  wram       : Memory
  oam        : Memory
  hram       : Memory
  xram       : Memory
  mapper     : MapperState
  cfg        : Config
  cycles     : Nat
  cycleTotal : Nat
  outcome    : Report
  anomalies  : List Anomaly
  portLog    : List PortEvent
  portReads  : Nat
  irqLines   : List (BitVec 5)
deriving DecidableEq, Repr

/-- The register file at power-on: "all values zero except PC = 0x0100 and SP = 0xFFFE" (10_state.md R36). -/
def RegFile.reset : RegFile :=
  { a := 0, b := 0, c := 0, d := 0, e := 0, h := 0, l := 0, f := 0, sp := 0xFFFE, pc := 0x0100 }

/-- External RAM at power-on: the preload when one is supplied (R36, R365); of MBC2's cells "only `v[3:0]` of each cell exists" (20_memory.md
R102). -/
def preloadXram (cfg : Config) : Memory :=
  let bytes := cfg.xramInit.getD []
  Memory.ofBytes 0 (if cfg.mapper = .mbc2 then bytes.map (fun v => v &&& 0x0F) else bytes)

/-- Power-on with a configuration (10_state.md R36, 70_reset_and_hazards.md R360, R365): RAM holds nothing the model knows, external
RAM holds the preload when one is supplied, and the anomalies of the load (20_memory.md R91 to R93) stand at the head of the
stream. The output fields and the model's own fields start as notes/assumptions/4.md, 5.md and 6.md say. -/
def State.powerOn (cfg : Config) (loadAnomalies : List Anomaly) : State :=
  { regs := RegFile.reset
    ime := false, halted := false, imePending := false
    ie := 0, ifr := 0, dma := 0
    wram := [], oam := [], hram := []
    xram := preloadXram cfg
    mapper := MapperState.initial cfg.mapper
    cfg := cfg
    cycles := 0, cycleTotal := 0, outcome := .handled, anomalies := loadAnomalies
    portLog := [], portReads := 0, irqLines := [] }

/-- The machine right after reset (10_state.md R36), with the blank cartridge of notes/assumptions/1.md. -/
def State.reset : State := State.powerOn Config.blank []

end Sys2Proof.Machine
end

