-- ==== Sys2Proof/WellFormed.lean ====
section
/-! DEFINITION. Checks on instructions and on configurations. -/

namespace Sys2Proof

/-- Well-formed instructions: every row but the one of the prefix byte, since "The byte 0xCB is not an instruction" (46_system.md R305).
Operand ranges need no check: the operand types have exactly the values the encodings admit. -/
def Instr.wf : Instr → Bool
  | .prefix_CB _ => false
  | _ => true

/-- A ROM image in its canonical form: the listed offsets rise, lie inside the image and hold nonzero bytes. -/
def RomImage.wf (r : RomImage) : Bool :=
  Machine.Memory.wfBelow r.size r.bytes && r.bytes.all (fun c => c.2 != 0)

/-- The smallest legal cartridge image (20_memory.md R89, 00_scope.md R8). -/
def minImageSize : Nat := 0x150

/-- An address of the I/O range 0xFF00 to 0xFF7F, as R9 types `cfg.IF_ADDR` and `cfg.DMA_ADDR`. -/
def isIoAddr (a : Addr) : Bool := decide (0xFF00 ≤ a.toNat) && decide (a.toNat ≤ 0xFF7F)

/-- A legal configuration: the image is canonical and not too short (20_memory.md R89), there is a bank (R92), the preload has length
`cfg.xram_size` (70_reset_and_hazards.md R365, D14), and the two owned I/O addresses are distinct addresses of the I/O range
(00_scope.md R9; that they differ is DEDUCED, notes/assumptions/10.md). -/
def Config.wf (c : Config) : Bool :=
  c.rom.wf && decide (minImageSize ≤ c.rom.size) && decide (1 ≤ c.romBanks) &&
  (match c.xramInit with
   | none => true
   | some bs => decide (bs.length = c.xramSize)) &&
  isIoAddr c.ifAddr && isIoAddr c.dmaAddr && decide (c.ifAddr ≠ c.dmaAddr)

end Sys2Proof
end

