-- ==== Sys2Proof/Machine/Cartridge.lean ====
section
/-! DEFINITION. The cartridge (20_memory.md R88 to R108): the ROM image, loading it (header fields), the banked windows and the mapper
registers. -/

namespace Sys2Proof.Machine

/-! ### The image -/

/-- Byte `i` of the image; "out-of-range returns 0xFF" (R95). -/
def romByte (r : RomImage) (i : Nat) : Byte :=
  if i < r.size then (Memory.get r.bytes i).getD 0 else 0xFF

/-- The image with byte `i` replaced, grown with zeros when it is shorter (used to load a program, never by a step). -/
def romSetByte (r : RomImage) (i : Nat) (v : Byte) : RomImage :=
  { size := max r.size (i + 1)
    bytes := if v = 0 then Memory.erase r.bytes i else Memory.set r.bytes i v }

/-- An image given as the list of its bytes. -/
def romOfBytes (l : List Byte) : RomImage :=
  { size := l.length, bytes := (Memory.ofBytes 0 l).filter (fun c => c.2 != 0) }

/-! ### Loading -/

/-- Mapper family from the type code (R91). -/
def mapperOfCode (code : Byte) : MapperKind :=
  let k := code.toNat
  if k ∈ [0x00, 0x08, 0x09] then .unbanked
  else if k ∈ [0x01, 0x02, 0x03] then .mbc1
  else if k ∈ [0x05, 0x06] then .mbc2
  else if k ∈ [0x0F, 0x10, 0x11, 0x12, 0x13] then .mbc3
  else if k ∈ [0x15, 0x16, 0x17] then .mbc4
  else if k ∈ [0x19, 0x1A, 0x1B, 0x1C, 0x1D, 0x1E] then .mbc5
  else .unknown

/-- ROM bank count from the ROM-size code; none for an unknown code (R92). -/
def romBanksOfCode (code : Byte) : Option Nat :=
  let k := code.toNat
  if k ≤ 0x08 then some (2 <<< k)
  else if k = 0x52 then some 72
  else if k = 0x53 then some 80
  else if k = 0x54 then some 96
  else none

/-- External-RAM size from the RAM-size code; none for an unknown code (R93). -/
def xramSizeOfCode (code : Byte) : Option Nat :=
  match code.toNat with
  | 0 => some 0
  | 1 => some 2048
  | 2 => some 8192
  | 3 => some 32768
  | 4 => some 131072
  | 5 => some 65536
  | _ => none

/-- The built-in RAM of MBC2: 512 half-bytes "whatever the code says" (R93, R102). -/
def mbc2Cells : Nat := 512

/-- Why a load fails (R89). -/
inductive LoadError where
  /-- "fails with `TooSmall` when input length < 0x150". -/
  | tooSmall
deriving DecidableEq, Repr

/-- `load(bytes)` (R89, R90): the configuration that the image's header selects, peripherals unattached and all parameters at their
defaults, with the anomalies of unknown codes (R91 to R93, defaults of D29: 2 banks, 0 bytes). -/
def loadCartridge (img : List Byte) : Except LoadError (Config × List Anomaly) :=
  if img.length < minImageSize then .error .tooSmall
  else
    let rom := romOfBytes img
    let mapperCode := romByte rom 0x147
    let romCode := romByte rom 0x148
    let ramCode := romByte rom 0x149
    let mapper := mapperOfCode mapperCode
    let cfg : Config :=
      { rom := rom
        mapper := mapper
        romBanks := (romBanksOfCode romCode).getD 2
        xramSize := if mapper = .mbc2 then mbc2Cells else (xramSizeOfCode ramCode).getD 0 }
    .ok (cfg,
      (if mapper = .unknown then [Anomaly.unknownMapperCode mapperCode] else []) ++
      (if romBanksOfCode romCode = none then [Anomaly.unknownSizeCode 0x148 romCode] else []) ++
      (if xramSizeOfCode ramCode = none then [Anomaly.unknownSizeCode 0x149 ramCode] else []))

/-- The loader's title parser (R94): the bytes at 0x134 to 0x143 up to the first one that is 0x00 or no printable ASCII. Not hardware;
nothing in the block reads it. -/
def cartridgeTitle (r : RomImage) : List Byte :=
  ((List.range 16).map (fun i => romByte r (0x134 + i))).takeWhile (fun v => decide (0x20 ≤ v.toNat ∧ v.toNat ≤ 0x7E))

/-! ### The ROM window -/

/-- Image offset of `off` in a bank, the bank number reduced modulo the bank count (`rom_at`, R97, R108). -/
def romIndex (cfg : Config) (bank off : Nat) : Nat := (bank % cfg.romBanks) * 0x4000 + off

/-- The image offset that an address of 0x0000 to 0x7FFF shows (R95, R96, R100, R102, R104, R106). -/
def cartRomIndex (s : State) (a : Addr) : Nat :=
  let off := a.toNat % 0x4000
  let low := a.toNat < 0x4000
  match s.mapper with
  | .unbanked => a.toNat
  | .mbc1 r =>
    if low then romIndex s.cfg (if r.mode = 1 then r.bank2.toNat <<< 5 else 0) off
    else romIndex s.cfg ((r.bank2.toNat <<< 5) ||| r.bank1.toNat) off
  | .mbc2 r => romIndex s.cfg (if low then 0 else r.romBank.toNat) off
  | .mbc3 r => romIndex s.cfg (if low then 0 else r.romBank.toNat) off
  | .mbc5 r => romIndex s.cfg (if low then 0 else r.romBank.toNat) off

/-- `cart_rom_read(a)`. -/
def cartRomRead (s : State) (a : Addr) : Byte := romByte s.cfg.rom (cartRomIndex s a)

/-- The RAM-enable test of every banking chip: `(v & 0x0F) == 0x0A`. -/
def enablesRam (v : Byte) : Bool := decide (v &&& 0x0F = 0x0A)

/-- A bank register that cannot hold 0: writing 0 selects 1 (R100, R102, R104). -/
def atLeastOne {n : Nat} (b : BitVec n) : BitVec n := if b = 0 then 1 else b

/-- MBC1 control writes (R100). -/
def mbc1Write (r : Mbc1) (a : Addr) (v : Byte) : Mbc1 :=
  if a.toNat < 0x2000 then { r with ramEn := enablesRam v }
  else if a.toNat < 0x4000 then { r with bank1 := atLeastOne (v.setWidth 5) }
  else if a.toNat < 0x6000 then { r with bank2 := v.setWidth 2 }
  else { r with mode := v.setWidth 1 }

/-- MBC2 control writes: bit 8 of the address selects the register (R102). -/
def mbc2Write (r : Mbc2) (a : Addr) (v : Byte) : Mbc2 :=
  if a.toNat < 0x4000 then
    if a.getLsbD 8 then { r with romBank := atLeastOne (v.setWidth 4) } else { r with ramEn := enablesRam v }
  else r

/-- MBC3 control writes; the clock latch at 0x6000 is out of scope (R104). -/
def mbc3Write (r : Mbc3) (a : Addr) (v : Byte) : Mbc3 :=
  if a.toNat < 0x2000 then { r with ramEn := enablesRam v }
  else if a.toNat < 0x4000 then { r with romBank := atLeastOne (v.setWidth 7) }
  else if a.toNat < 0x6000 then { r with sel := v.setWidth 4 }
  else r

/-- MBC5 control writes (R106). -/
def mbc5Write (r : Mbc5) (a : Addr) (v : Byte) : Mbc5 :=
  if a.toNat < 0x2000 then { r with ramEn := enablesRam v }
  else if a.toNat < 0x3000 then { r with romBank := (r.romBank.extractLsb' 8 1 ++ v).setWidth 9 }
  else if a.toNat < 0x4000 then { r with romBank := (v.setWidth 1 ++ r.romBank.extractLsb' 0 8).setWidth 9 }
  else if a.toNat < 0x6000 then { r with ramBank := v.setWidth 4 }
  else r

/-- The mapper state after `cart_rom_write(a, v)`; ROM-window writes are ignored without a banking chip (R95). -/
def mapperWrite (m : MapperState) (a : Addr) (v : Byte) : MapperState :=
  match m with
  | .unbanked => .unbanked
  | .mbc1 r => .mbc1 (mbc1Write r a v)
  | .mbc2 r => .mbc2 (mbc2Write r a v)
  | .mbc3 r => .mbc3 (mbc3Write r a v)
  | .mbc5 r => .mbc5 (mbc5Write r a v)

/-- `cart_rom_write(a, v)`: changes mapper state only, never a ROM byte (R62). -/
def cartRomWrite (s : State) (a : Addr) (v : Byte) : State := { s with mapper := mapperWrite s.mapper a v }

/-! ### The external-RAM window -/

/-- An index inside external RAM, if it is one ("in if i < cfg.xram_size", R95, R97). -/
def inXram (cfg : Config) (i : Nat) : Option Nat := if i < cfg.xramSize then some i else none

/-- `ram_index(bank, off)`, if it lies inside external RAM (R97). -/
def ramIndex (cfg : Config) (bank off : Nat) : Option Nat := inXram cfg (bank * 0x2000 + off)

/-- The `xram` cell that an address of 0xA000 to 0xBFFF shows; none when RAM is absent, disabled, too short or not selected (R95, R100,
R102, R104, R106). -/
def cartRamIndex (s : State) (a : Addr) : Option Nat :=
  let off := a.toNat - 0xA000
  match s.mapper with
  | .unbanked => inXram s.cfg off
  | .mbc1 r => if r.ramEn then ramIndex s.cfg (if r.mode = 1 then r.bank2.toNat else 0) off else none
  | .mbc2 r => if r.ramEn then some (off % mbc2Cells) else none
  | .mbc3 r => if r.ramEn = true ∧ r.sel.toNat ≤ 3 then ramIndex s.cfg r.sel.toNat off else none
  | .mbc5 r => if r.ramEn then ramIndex s.cfg r.ramBank.toNat off else none

/-- A byte of a RAM array: what was last written, or the power-on byte, a free value (10_state.md R36, U5). -/
def ramByte (arr : RamArray) (m : Memory) (i : Nat) : Byte := (Memory.get m i).getD (Config.powerOnByte arr i)

/-- Whether external RAM is MBC2's array of half-bytes. -/
def halfByteRam : MapperState → Bool
  | .mbc2 _ => true
  | _ => false

/-- `cart_ram_read(a)`; MBC2 cells have four bits, read under a high nibble of ones (R102). -/
def cartRamRead (s : State) (a : Addr) : Byte :=
  match cartRamIndex s a with
  | none => 0xFF
  | some i =>
    let v := ramByte .xram s.xram i
    if halfByteRam s.mapper then 0xF0 ||| (v &&& 0x0F) else v

/-- `cart_ram_write(a, v)`. -/
def cartRamWrite (s : State) (a : Addr) (v : Byte) : State :=
  match cartRamIndex s a with
  | none => s
  | some i => { s with xram := Memory.set s.xram i (if halfByteRam s.mapper then v &&& 0x0F else v) }

end Sys2Proof.Machine
end

