-- ==== Sys2Proof/Machine/Cycles.lean ====
section
/-! DEFINITION. The cycle table of 70_reset_and_hazards.md R376, by opcode key (the row's `match` value in opcode_table.json: the opcode
byte, or 0xCB00 + second byte). Laid out as the opcode grid of 30_encoding.md R131, sixteen opcodes a row. -/

namespace Sys2Proof.Machine

/-- Untaken (or only) cost of the primary opcodes 0x00 to 0x7F. -/
def primaryCyclesLow : List Nat :=
  [4, 12, 8, 8, 4, 4, 8, 4, 20, 8, 8, 8, 4, 4, 8, 4] ++
  [4, 12, 8, 8, 4, 4, 8, 4, 12, 8, 8, 8, 4, 4, 8, 4] ++
  [8, 12, 8, 8, 4, 4, 8, 4, 8, 8, 8, 8, 4, 4, 8, 4] ++
  [8, 12, 8, 8, 12, 12, 12, 4, 8, 8, 8, 8, 4, 4, 8, 4] ++
  [4, 4, 4, 4, 4, 4, 8, 4, 4, 4, 4, 4, 4, 4, 8, 4] ++
  [4, 4, 4, 4, 4, 4, 8, 4, 4, 4, 4, 4, 4, 4, 8, 4] ++
  [4, 4, 4, 4, 4, 4, 8, 4, 4, 4, 4, 4, 4, 4, 8, 4] ++
  [8, 8, 8, 8, 8, 8, 4, 8, 4, 4, 4, 4, 4, 4, 8, 4]

/-- Untaken (or only) cost of the primary opcodes 0x80 to 0xFF. The prefix byte has no cost of its own (46_system.md R305): 0. -/
def primaryCyclesHigh : List Nat :=
  [4, 4, 4, 4, 4, 4, 8, 4, 4, 4, 4, 4, 4, 4, 8, 4] ++
  [4, 4, 4, 4, 4, 4, 8, 4, 4, 4, 4, 4, 4, 4, 8, 4] ++
  [4, 4, 4, 4, 4, 4, 8, 4, 4, 4, 4, 4, 4, 4, 8, 4] ++
  [4, 4, 4, 4, 4, 4, 8, 4, 4, 4, 4, 4, 4, 4, 8, 4] ++
  [8, 12, 12, 16, 12, 16, 8, 16, 8, 16, 12, 0, 12, 24, 8, 16] ++
  [8, 12, 12, 4, 12, 16, 8, 16, 8, 16, 12, 4, 12, 4, 8, 16] ++
  [12, 12, 8, 4, 4, 16, 8, 16, 16, 4, 16, 4, 4, 4, 8, 16] ++
  [12, 12, 8, 4, 4, 16, 8, 16, 12, 8, 16, 4, 4, 4, 8, 16]

/-- Cost of a row of the 0xCB table: 8 on a register; on `(HL)` 12 for `BIT`, 16 for the others. -/
def extendedCycles (op2 : Nat) : Nat :=
  if op2 % 8 = 6 then (if 0x40 ≤ op2 ∧ op2 < 0x80 then 12 else 16) else 8

/-- Taken cost of a conditional opcode, untaken cost `n`; any other opcode costs `n`. The taken costs of `CALL cc` and `RET cc` are the
hardware's (90_conflicts.md C4). -/
def takenCycles (op n : Nat) : Nat :=
  if op ∈ [0x20, 0x28, 0x30, 0x38] then 12
  else if op ∈ [0xC2, 0xCA, 0xD2, 0xDA] then 16
  else if op ∈ [0xC4, 0xCC, 0xD4, 0xDC] then 24
  else if op ∈ [0xC0, 0xC8, 0xD0, 0xD8] then 20
  else n

/-- The table of R376: (untaken, taken). -/
def tableCost (key : Nat) : Nat × Nat :=
  if key < 0x100 then
    let n := (primaryCyclesLow ++ primaryCyclesHigh).getD key 0
    (n, takenCycles key n)
  else (extendedCycles (key % 0x100), extendedCycles (key % 0x100))

/-- `cfg.cycles` of an opcode key (00_scope.md R9, R376). -/
def cycleCost (cfg : Config) (key : Nat) : Nat × Nat :=
  match cfg.cycleOverrides.find? (fun p => p.1 == key) with
  | some p => p.2
  | none => tableCost key

/-- The cost of an interrupt entry (60_exceptions.md R320, R333, R376). -/
def entryCycles : Nat := 20

/-- The cost of an idle step while halted (R320, R376, D4). -/
def idleCycles : Nat := 4

end Sys2Proof.Machine
end

