-- ==== Sys2Proof/Machine/Bits.lean ====
section
/-! DEFINITION. Bit fields, byte order and sign extension (00_scope.md R10, R11; 20_memory.md R82, R83). -/

namespace Sys2Proof.Machine

/-- The high byte `w[15:8]` (R10). -/
def hi8 (w : Addr) : Byte := w.extractLsb' 8 8

/-- The low byte `w[7:0]` (R10). -/
def lo8 (w : Addr) : Byte := w.extractLsb' 0 8

/-- The concatenation of two bytes, the high one first (R10). -/
def mk16 (high low : Byte) : Addr := high ++ low

/-- `zext_16(b)` (R11). -/
def zext16 (b : Byte) : Addr := b.setWidth 16

/-- `sext_16(b)` (R11, 30_encoding.md R129). -/
def sext16 (b : Byte) : Addr := b.signExtend 16

/-- Bit `i` of a byte (R10). -/
def bitOf (v : Byte) (i : Nat) : Bool := v.getLsbD i

/-- A bit as the byte 0 or 1. -/
def bitByte (b : Bool) : Byte := (BitVec.ofBool b).setWidth 8

/-- `v & ~(1 << i)` (44_rotate_shift_bit.md R264). -/
def clearBit (v : Byte) (i : Nat) : Byte := v &&& ~~~((1#8) <<< i)

/-- `v | (1 << i)` (44_rotate_shift_bit.md R265). -/
def setBit (v : Byte) (i : Nat) : Byte := v ||| ((1#8) <<< i)

/-- `v & 0xF` as a number (42_alu8.md R200, R201). -/
def lowNibble (v : Byte) : Nat := (v &&& 0x0F#8).toNat

/-- `v & 0xFFF` as a number (43_alu16.md R241). -/
def low12 (v : Addr) : Nat := (v &&& 0x0FFF#16).toNat

end Sys2Proof.Machine
end

