-- ==== Sys2Proof/Machine/Flags.lean ====
section
/-! DEFINITION. The flag register and every result and flag computation (10_state.md R21, R26; 42_alu8.md; 43_alu16.md;
44_rotate_shift_bit.md), as functions of bytes. Sums and differences are computed exactly and narrowed at the end (00_scope.md R11). -/

namespace Sys2Proof.Machine

/-- `fZ` of a flag byte (R21). -/
def fZ (f : Byte) : Bool := bitOf f 7

/-- `fN` of a flag byte (R21). -/
def fN (f : Byte) : Bool := bitOf f 6

/-- `fH` of a flag byte (R21). -/
def fH (f : Byte) : Bool := bitOf f 5

/-- `fC` of a flag byte (R21). -/
def fC (f : Byte) : Bool := bitOf f 4

/-- The flag byte with the four flags given, low nibble zero (R21). -/
def packF (z n h c : Bool) : Byte :=
  (bitByte z <<< 7) ||| (bitByte n <<< 6) ||| (bitByte h <<< 5) ||| (bitByte c <<< 4)

/-- What a byte written to `F` stores: "`v & 0xF0`" (R21). -/
def maskF (v : Byte) : Byte := v &&& 0xF0

/-- A result with its zero, half-carry and carry outputs. -/
structure AluOut where
  res : Byte
  z   : Bool
  h   : Bool
  c   : Bool
deriving DecidableEq, Repr

/-- `add8(a, b, cin)` (42_alu8.md R200). -/
def add8 (a b : Byte) (cin : Bool) : AluOut :=
  let s := a.toNat + b.toNat + cin.toNat
  let r := BitVec.ofNat 8 s
  { res := r
    z := decide (r = 0)
    h := decide (lowNibble a + lowNibble b + cin.toNat > 0xF)
    c := decide (s > 0xFF) }

/-- `sub8(a, b, cin)` (R201; the formula, not the corrected example: 90_conflicts.md C6). -/
def sub8 (a b : Byte) (cin : Bool) : AluOut :=
  let d : Int := (a.toNat : Int) - b.toNat - cin.toNat
  let r := BitVec.ofInt 8 d
  { res := r
    z := decide (r = 0)
    h := decide (lowNibble a < lowNibble b + cin.toNat)
    c := decide (a.toNat < b.toNat + cin.toNat) }

/-- The accumulator and flags after an accumulator operation on `a` and operand `v`, flags `f` before (R202 to R209): the new `A`, the
new `F`. -/
def alu (op : AluOp) (a v f : Byte) : Byte × Byte :=
  match op with
  | .add => let o := add8 a v false; (o.res, packF o.z false o.h o.c)
  | .adc => let o := add8 a v (fC f); (o.res, packF o.z false o.h o.c)
  | .sub => let o := sub8 a v false; (o.res, packF o.z true o.h o.c)
  | .sbc => let o := sub8 a v (fC f); (o.res, packF o.z true o.h o.c)
  | .and => let r := a &&& v; (r, packF (decide (r = 0)) false true false)
  | .xor => let r := a ^^^ v; (r, packF (decide (r = 0)) false false false)
  | .or => let r := a ||| v; (r, packF (decide (r = 0)) false false false)
  | .cp => let o := sub8 a v false; (a, packF o.z true o.h o.c)

/-- `INC` of a byte: the new byte, the new `F`; `fC` is kept (R220, R221). -/
def inc8 (old f : Byte) : Byte × Byte :=
  let new := BitVec.ofNat 8 (old.toNat + 1)
  (new, packF (decide (new = 0)) false (decide (lowNibble old = 0xF)) (fC f))

/-- `DEC` of a byte: the new byte, the new `F`; `fC` is kept (R222, R223). -/
def dec8 (old f : Byte) : Byte × Byte :=
  let new := BitVec.ofInt 8 ((old.toNat : Int) - 1)
  (new, packF (decide (new = 0)) true (decide (lowNibble old = 0)) (fC f))

/-- The adjustment of `DAA` (R224): `adj`. Both tests of the branch after an addition use `A` before adjustment. -/
def daaAdjust (a f : Byte) : Byte :=
  if fN f then
    (if fH f then 0x06#8 else 0) ||| (if fC f then 0x60#8 else 0)
  else
    (if fH f = true ∨ lowNibble a > 0x09 then 0x06#8 else 0) ||| (if fC f = true ∨ a.toNat > 0x99 then 0x60#8 else 0)

/-- The carry after `DAA` (R224): set by an adjustment above 0x99 after an addition, unchanged after a subtraction. -/
def daaCarry (a f : Byte) : Bool :=
  if fN f then fC f else fC f || decide (a.toNat > 0x99)

/-- `DAA`: the new `A`, the new `F` (R224). -/
def daa (a f : Byte) : Byte × Byte :=
  let r := if fN f then a - daaAdjust a f else a + daaAdjust a f
  (r, packF (decide (r = 0)) (fN f) false (daaCarry a f))

/-- `CPL`: the new `A`, the new `F` (R225). -/
def cpl (a f : Byte) : Byte × Byte := (a ^^^ 0xFF, packF (fZ f) true true (fC f))

/-- `SCF`: the new `F` (R226). -/
def scf (f : Byte) : Byte := packF (fZ f) false false true

/-- `CCF`: the new `F` (R227). -/
def ccf (f : Byte) : Byte := packF (fZ f) false false (!fC f)

/-- A rotate or shift of a byte by one place, with the old carry: the result and the carry out (R255 to R262). -/
def rotate (op : RotOp) (v : Byte) (cin : Bool) : Byte × Bool :=
  match op with
  | .rlc => ((v <<< 1) ||| bitByte (bitOf v 7), bitOf v 7)
  | .rrc => ((v >>> 1) ||| (bitByte (bitOf v 0) <<< 7), bitOf v 0)
  | .rl => ((v <<< 1) ||| bitByte cin, bitOf v 7)
  | .rr => ((v >>> 1) ||| (bitByte cin <<< 7), bitOf v 0)
  | .sla => (v <<< 1, bitOf v 7)
  | .sra => ((v >>> 1) ||| (v &&& 0x80), bitOf v 0)
  | .swap => ((v <<< 4) ||| (v >>> 4), false)
  | .srl => (v >>> 1, bitOf v 0)

/-- A rotate or shift of the 0xCB table: the result and the new `F`, `fZ` from the result (R255 to R262, R266 to R273). -/
def rotateF (op : RotOp) (v f : Byte) : Byte × Byte :=
  let o := rotate op v (fC f)
  (o.1, packF (decide (o.1 = 0)) false false o.2)

/-- An accumulator rotate: as in the 0xCB table, but `fZ` is forced to 0 (R250 to R253). -/
def rotateAccF (op : RotOp) (v f : Byte) : Byte × Byte :=
  let o := rotate op v (fC f)
  (o.1, packF false false false o.2)

/-- The new `F` after `BIT b` of `v` (R263, R274). -/
def bitF (b : Fin 8) (v f : Byte) : Byte := packF (!bitOf v b.val) false true (fC f)

/-- `ADD HL,rr` on two 16-bit operands: the sum and the new `F`; `fZ` is kept (43_alu16.md R241). -/
def add16 (a b : Addr) (f : Byte) : Addr × Byte :=
  let s := a.toNat + b.toNat
  (BitVec.ofNat 16 s, packF (fZ f) false (decide (low12 a + low12 b > 0xFFF)) (decide (s > 0xFFFF)))

/-- `addsp(sp, e)` with the flags of its two users: the sum and the new `F` (R240, R244; 41_load16_stack.md R185). -/
def addSp (sp : Addr) (e : Byte) : Addr × Byte :=
  let b := sext16 e
  let r := sp + b
  let x := sp ^^^ b ^^^ r
  (r, packF false false (x.getLsbD 4) (x.getLsbD 8))

end Sys2Proof.Machine
end

