-- ==== Sys2Proof/Machine/Operands.lean ====
section
/-! DEFINITION. Every operand form that is a register: 8-bit registers, pairs, flags, conditions, and the addresses formed from
immediates (30_encoding.md R124 to R129, 10_state.md R20 to R25). Memory operands are in Machine/Ops.lean. -/

namespace Sys2Proof.Machine

/-- `x[i]` (R124). -/
def State.get8 (s : State) : Reg8 → Byte
  | .b => s.regs.b
  | .c => s.regs.c
  | .d => s.regs.d
  | .e => s.regs.e
  | .h => s.regs.h
  | .l => s.regs.l
  | .a => s.regs.a

/-- The register file after `x[i] <- v` (R124). -/
def RegFile.set8 (g : RegFile) (r : Reg8) (v : Byte) : RegFile :=
  match r with
  | .b => { g with b := v }
  | .c => { g with c := v }
  | .d => { g with d := v }
  | .e => { g with e := v }
  | .h => { g with h := v }
  | .l => { g with l := v }
  | .a => { g with a := v }

/-- `x[i] <- v` (R124). -/
def State.set8 (s : State) (r : Reg8) (v : Byte) : State := { s with regs := s.regs.set8 r v }

/-- `BC` (10_state.md R22). -/
def State.bc (s : State) : Addr := mk16 s.regs.b s.regs.c

/-- `DE` (R22). -/
def State.de (s : State) : Addr := mk16 s.regs.d s.regs.e

/-- `HL` (R22). -/
def State.hl (s : State) : Addr := mk16 s.regs.h s.regs.l

/-- `AF` (R22). -/
def State.af (s : State) : Addr := mk16 s.regs.a s.regs.f

/-- `F <- v`, low nibble forced to zero (R21). -/
def State.setF (s : State) (v : Byte) : State := { s with regs := { s.regs with f := maskF v } }

/-- `pc <- target` (R24). -/
def State.setPC (s : State) (v : Addr) : State := { s with regs := { s.regs with pc := v } }

/-- `SP <- v` (R25). -/
def State.setSP (s : State) (v : Addr) : State := { s with regs := { s.regs with sp := v } }

/-- `rp[i]` (R125). -/
def State.getRP (s : State) : RP → Addr
  | .bc => s.bc
  | .de => s.de
  | .hl => s.hl
  | .sp => s.regs.sp

/-- The register file after `rp[i] <- v` (R22, R125). -/
def RegFile.setRP (g : RegFile) (p : RP) (v : Addr) : RegFile :=
  match p with
  | .bc => { g with b := hi8 v, c := lo8 v }
  | .de => { g with d := hi8 v, e := lo8 v }
  | .hl => { g with h := hi8 v, l := lo8 v }
  | .sp => { g with sp := v }

/-- `rp[i] <- v` (R22, R125). -/
def State.setRP (s : State) (p : RP) (v : Addr) : State := { s with regs := s.regs.setRP p v }

/-- `rp2[i]` (R125). -/
def State.getRP2 (s : State) : RP2 → Addr
  | .bc => s.bc
  | .de => s.de
  | .hl => s.hl
  | .af => s.af

/-- The register file after `rp2[i] <- v`; for `AF` the low half is masked (R21, R22, R189). -/
def RegFile.setRP2 (g : RegFile) (p : RP2) (v : Addr) : RegFile :=
  match p with
  | .bc => { g with b := hi8 v, c := lo8 v }
  | .de => { g with d := hi8 v, e := lo8 v }
  | .hl => { g with h := hi8 v, l := lo8 v }
  | .af => { g with a := hi8 v, f := maskF (lo8 v) }

/-- `rp2[i] <- v` (R125). -/
def State.setRP2 (s : State) (p : RP2) (v : Addr) : State := { s with regs := s.regs.setRP2 p v }

/-- `cond(cc)` (45_control.md R280). -/
def State.cond (s : State) : Cond → Bool
  | .nz => !fZ s.regs.f
  | .z => fZ s.regs.f
  | .nc => !fC s.regs.f
  | .c => fC s.regs.f

/-- The address `0xFF00 + n` of the `LDH` forms (30_encoding.md R129). -/
def highPage (n : Byte) : Addr := mk16 0xFF n

/-- The target `y * 8` of `RST` (45_control.md R290). -/
def rstTarget (y : Fin 8) : Addr := BitVec.ofNat 16 (y.val * 8)

end Sys2Proof.Machine
end

