-- ==== Sys2Proof/Machine/Ops.lean ====
section
/-! DEFINITION. The operations every instruction is built from: the region decoder with `read8` and `write8` (20_memory.md R60 to R74), the
DMA copy (R80), fetch (30_encoding.md R122), the stack (41_load16_stack.md R180, R181), interrupt requests, interrupt entry and the
return from it (60_exceptions.md R330 to R334, 45_control.md R292), and the cycle output (R375). -/

namespace Sys2Proof.Machine

/-! ### The region decoder -/

/-- The ten regions (R61). -/
inductive Region where
  | rom
  | vram
  | xram
  | wram
  | mirror
  | oam
  | unusable
  | io
  | hram
  | ie
deriving DecidableEq, Repr

/-- The region that claims an address: "exactly one region claims it (no gaps, no overlaps)" (R61, R74). -/
def regionOf (a : Addr) : Region :=
  let n := a.toNat
  if n < 0x8000 then .rom
  else if n < 0xA000 then .vram
  else if n < 0xC000 then .xram
  else if n < 0xE000 then .wram
  else if n < 0xFE00 then .mirror
  else if n < 0xFEA0 then .oam
  else if n < 0xFF00 then .unusable
  else if n < 0xFF80 then .io
  else if n < 0xFFFF then .hram
  else .ie

/-- The number of an anomaly's kind (R345, D22). -/
def Anomaly.code : Anomaly → Nat
  | .unimplementedOpcode _ _ => 1
  | .unusableRead _ => 2
  | .unusableWrite _ _ => 3
  | .unknownMapperCode _ => 4
  | .unknownSizeCode _ _ => 5

/-- Append an anomaly record (60_exceptions.md R345). -/
def emit (x : Anomaly) (s : State) : State := { s with anomalies := s.anomalies ++ [x] }

/-- A transaction on a peripheral port (00_scope.md R7). -/
def logPort (e : PortEvent) (s : State) : State := { s with portLog := s.portLog ++ [e] }

/-- A forwarded read: the transaction, and the next free value as the answer (R64, R71, U8). -/
def portRead (e : PortEvent) (answer : Nat → Byte) (s : State) : Byte × State :=
  (answer s.portReads, { logPort e s with portReads := s.portReads + 1 })

/-- Index of a work-RAM address, or of a mirror address redirected by -0x2000 (R66, R67). -/
def wramIndex (a : Addr) : Nat := a.toNat - 0xC000

/-- The mirror's redirection (R67). -/
def unmirror (a : Addr) : Addr := a - 0x2000

/-- `read8(address)` (R60 to R74). -/
def read8 (a : Addr) (s : State) : Byte × State :=
  match regionOf a with
  | .rom => (cartRomRead s a, s)
  | .vram => if s.cfg.vramAttached then portRead (.vramRead a) (fun n => Config.vramByte n a) s else (0xFF, s)
  | .xram => (cartRamRead s a, s)
  | .wram => (ramByte .wram s.wram (wramIndex a), s)
  | .mirror => (ramByte .wram s.wram (wramIndex (unmirror a)), s)
  | .oam => (ramByte .oam s.oam (a.toNat - 0xFE00), s)
  | .unusable => (0xFF, emit (.unusableRead a) s)
  | .io =>
    if a = s.cfg.ifAddr then (s.ifr, s)
    else if a = s.cfg.dmaAddr then (s.dma, s)
    else if s.cfg.ioAttached then portRead (.ioRead a) (fun n => Config.ioByte n a) s
    else (0xFF, s)
  | .hram => (ramByte .hram s.hram (a.toNat - 0xFF80), s)
  | .ie => (s.ie, s)

/-- `write8(address, byte)` but for the copy that a write to the DMA register performs (R60 to R73). -/
def writeCell (a : Addr) (v : Byte) (s : State) : State :=
  match regionOf a with
  | .rom => cartRomWrite s a v
  | .vram => if s.cfg.vramAttached then logPort (.vramWrite a v) s else s
  | .xram => cartRamWrite s a v
  | .wram => { s with wram := Memory.set s.wram (wramIndex a) v }
  | .mirror => { s with wram := Memory.set s.wram (wramIndex (unmirror a)) v }
  | .oam => { s with oam := Memory.set s.oam (a.toNat - 0xFE00) v }
  | .unusable => emit (.unusableWrite a v) s
  | .io =>
    if a = s.cfg.ifAddr then { s with ifr := v }
    else if a = s.cfg.dmaAddr then { s with dma := v }
    else if s.cfg.ioAttached then logPort (.ioWrite a v) s
    else s
  | .hram => { s with hram := Memory.set s.hram (a.toNat - 0xFF80) v }
  | .ie => { s with ie := v }

/-- One byte of the DMA copy (R80): an ordinary read at `b*0x100 + i`, an ordinary write at `0xFE00 + i`. The write lands in OAM, never
on the DMA register, so `writeCell` is all of `write8` there. -/
def dmaByte (b : Byte) (s : State) (i : Nat) : State :=
  let r := read8 (BitVec.ofNat 16 (b.toNat * 0x100 + i)) s
  writeCell (BitVec.ofNat 16 (0xFE00 + i)) r.1 r.2

/-- How many bytes a DMA copy moves (00_scope.md R8). -/
def dmaLength : Nat := 160

/-- The DMA copy (R80): "for i = 0, 1, ..., 159 in ascending order". -/
def dmaCopy (b : Byte) (s : State) : State := (List.range dmaLength).foldl (dmaByte b) s

/-- Whether a write to an address triggers the DMA copy: the address is the DMA register's, and the interrupt-flag register, decoded
first, is not there (R70; notes/assumptions/10.md). -/
def triggersDma (a : Addr) (s : State) : Bool :=
  decide (regionOf a = .io ∧ a ≠ s.cfg.ifAddr ∧ a = s.cfg.dmaAddr)

/-- `write8(address, byte)` (R60 to R73, R80). -/
def write8 (a : Addr) (v : Byte) (s : State) : State :=
  if triggersDma a s then dmaCopy v (writeCell a v s) else writeCell a v s

/-- `MemWrite(addr, 2, v)`: low byte first, high byte at `addr + 1` (R82). -/
def write16 (a v : Addr) (s : State) : State := write8 (a + 1) (hi8 v) (write8 a (lo8 v) s)

/-! ### Fetch -/

/-- `fetch8()` (30_encoding.md R122). -/
def fetch8 (s : State) : Byte × State :=
  let r := read8 s.regs.pc s
  (r.1, r.2.setPC (s.regs.pc + 1))

/-! ### The stack -/

/-- `push16(v)` (41_load16_stack.md R180). -/
def push16 (v : Addr) (s : State) : State :=
  let s1 := write8 (s.regs.sp - 1) (hi8 v) s
  let s2 := write8 (s.regs.sp - 2) (lo8 v) s1
  s2.setSP (s.regs.sp - 2)

/-- `pop16()` (R181). -/
def pop16 (s : State) : Addr × State :=
  let lo := read8 s.regs.sp s
  let hi := read8 (s.regs.sp + 1) lo.2
  (mk16 hi.1 lo.1, hi.2.setSP (s.regs.sp + 2))

/-- `pc <- pop16()` (45_control.md R288). -/
def popPC (s : State) : State :=
  let r := pop16 s
  r.2.setPC r.1

/-! ### Interrupts -/

/-- The five sources (60_exceptions.md R330). -/
inductive Source where
  | vblank
  | lcdStatus
  | timer
  | serial
  | joypad
deriving DecidableEq, Repr

/-- The bit of a source in `IF` and `IE` (R330). -/
def Source.index : Source → Nat
  | .vblank => 0
  | .lcdStatus => 1
  | .timer => 2
  | .serial => 3
  | .joypad => 4

/-- `cfg.vector[i]` (R330). -/
def vectorOf (v : Vectors) : Source → Addr
  | .vblank => v.vblank
  | .lcdStatus => v.lcdStatus
  | .timer => v.timer
  | .serial => v.serial
  | .joypad => v.joypad

/-- `IF & IE & 0x1F` (R320). -/
def State.pending (s : State) : Byte := s.ifr &&& s.ie &&& 0x1F

/-- "pick the lowest-numbered pending bit" (R332, R333), of a nonzero pending value. -/
def lowestPending (pend : Byte) : Source :=
  if bitOf pend 0 then .vblank
  else if bitOf pend 1 then .lcdStatus
  else if bitOf pend 2 then .timer
  else if bitOf pend 3 then .serial
  else .joypad

/-- Requests on the lines `irq[4:0]`: `IF <- IF | (1 << i)` for each asserted line (R331). -/
def State.requestIrq (lines : BitVec 5) (s : State) : State := { s with ifr := s.ifr ||| lines.setWidth 8 }

/-- The requests that the environment asserts between the previous step and this one: the head of the schedule (R331;
notes/assumptions/5.md). -/
def takeRequests (s : State) : State :=
  match s.irqLines with
  | [] => s
  | lines :: rest => { s.requestIrq lines with irqLines := rest }

/-- `InterruptEntry(pend)` (R333), the one exception entry of the block; reports 20 cycles (R320). The flag bit is cleared and the
source chosen before the push. -/
def interruptEntry (pend : Byte) (s : State) : State :=
  let i := lowestPending pend
  let s1 := { s with ifr := clearBit s.ifr i.index, ime := false, imePending := false }
  let s2 := push16 s1.regs.pc s1
  { s2.setPC (vectorOf s2.cfg.vectors i) with halted := false, cycles := entryCycles }

/-- The return from a handler, `RETI`: `pc <- pop16(); IME <- true; ime_pending <- false` (45_control.md R292, 60_exceptions.md R334). -/
def interruptReturn (s : State) : State := { popPC s with ime := true, imePending := false }

/-- The idle step while halted: nothing changes, 4 cycles are reported (60_exceptions.md R320, D4). -/
def idleStep (s : State) : State := { s with cycles := idleCycles }

/-- Phase 3 of the step: the delayed effect of `EI` (R320, 46_system.md R304). -/
def promoteIme (s : State) : State := if s.imePending then { s with ime := true, imePending := false } else s

/-! ### Completing an instruction -/

/-- `cycles <- ` the cost of the opcode, untaken or taken (70_reset_and_hazards.md R375, R376). -/
def charge (key : Nat) (taken : Bool) (s : State) : State :=
  { s with cycles := if taken then (cycleCost s.cfg key).2 else (cycleCost s.cfg key).1 }

/-- An instruction completes: the state after its operation, with its cycle count reported. -/
def done (key : Nat) (taken : Bool) (s : State) : Host.Outcome State Fault Refusal := .next (charge key taken s)

/-- The ghost counter: "a model that keeps it sums it into a ghost counter" (R375). Nothing else touches or reads it. -/
def sumCycles (s : State) : State := { s with cycleTotal := s.cycleTotal + s.cycles }

/-- The end of a step: the count it reports is added to the ghost counter (R375). -/
def tally : Host.Outcome State Fault Refusal → Host.Outcome State Fault Refusal
  | .next s => .next (sumCycles s)
  | .fault r => .fault r
  | .refused r => .refused r

end Sys2Proof.Machine
end

