-- ==== Sys2Proof/Machine/Alu16.lean ====
section
/-! DEFINITION. The 16-bit arithmetic instructions (43_alu16.md R241 to R244). -/

namespace Sys2Proof.Machine

/-- `HL <- HL + b` with its flags; both operands are read before `HL` is written (R241). -/
def addHL (b : Addr) (s : State) : State :=
  let o := add16 s.hl b s.regs.f
  (s.setRP .hl o.1).setF o.2

/-- `SP <- SP + e` with the flags of `addsp` (R244). -/
def addSpOffset (e : Byte) (s : State) : State :=
  let o := addSp s.regs.sp e
  (s.setSP o.1).setF o.2

/-- R242: `INC BC`. -/
def execInc_BC (s : State) : Host.Outcome State Fault Refusal := done 0x03 false (s.setRP .bc (s.getRP .bc + 1))

/-- R241: `ADD HL,BC`. -/
def execAdd_HL_BC (s : State) : Host.Outcome State Fault Refusal := done 0x09 false (addHL (s.getRP .bc) s)

/-- R243: `DEC BC`. -/
def execDec_BC (s : State) : Host.Outcome State Fault Refusal := done 0x0B false (s.setRP .bc (s.getRP .bc - 1))

/-- R242: `INC DE`. -/
def execInc_DE (s : State) : Host.Outcome State Fault Refusal := done 0x13 false (s.setRP .de (s.getRP .de + 1))

/-- R241: `ADD HL,DE`. -/
def execAdd_HL_DE (s : State) : Host.Outcome State Fault Refusal := done 0x19 false (addHL (s.getRP .de) s)

/-- R243: `DEC DE`. -/
def execDec_DE (s : State) : Host.Outcome State Fault Refusal := done 0x1B false (s.setRP .de (s.getRP .de - 1))

/-- R242: `INC HL`. -/
def execInc_HL (s : State) : Host.Outcome State Fault Refusal := done 0x23 false (s.setRP .hl (s.getRP .hl + 1))

/-- R241: `ADD HL,HL`. -/
def execAdd_HL_HL (s : State) : Host.Outcome State Fault Refusal := done 0x29 false (addHL (s.getRP .hl) s)

/-- R243: `DEC HL`. -/
def execDec_HL (s : State) : Host.Outcome State Fault Refusal := done 0x2B false (s.setRP .hl (s.getRP .hl - 1))

/-- R242: `INC SP`. -/
def execInc_SP (s : State) : Host.Outcome State Fault Refusal := done 0x33 false (s.setRP .sp (s.getRP .sp + 1))

/-- R241: `ADD HL,SP`. -/
def execAdd_HL_SP (s : State) : Host.Outcome State Fault Refusal := done 0x39 false (addHL (s.getRP .sp) s)

/-- R243: `DEC SP`. -/
def execDec_SP (s : State) : Host.Outcome State Fault Refusal := done 0x3B false (s.setRP .sp (s.getRP .sp - 1))

/-- R244: `ADD SP,e`. -/
def execAdd_SP_e (e : Byte) (s : State) : Host.Outcome State Fault Refusal := done 0xE8 false (addSpOffset e s)

end Sys2Proof.Machine
end

