-- ==== Sys2Proof/Machine/Alu8.lean ====
section
/-! DEFINITION. The 8-bit arithmetic and logic instructions (42_alu8.md R202 to R235), and the two read-modify-write shapes they share with
the rotates. -/

namespace Sys2Proof.Machine

/-- An accumulator operation with an operand byte (R202 to R209, R228 to R235). -/
def aluWith (op : AluOp) (v : Byte) (s : State) : State :=
  let o := alu op s.regs.a v s.regs.f
  (s.set8 .a o.1).setF o.2

/-- An accumulator operation with the memory byte at `HL`, read once before `A` and `F` are written (R210 to R217). -/
def aluMem (op : AluOp) (s : State) : State :=
  let r := read8 s.hl s
  aluWith op r.1 r.2

/-- A register replaced by a function of it and of `F`, which also gives the new `F` (R220, R222, R224, R225, R250 to R262). -/
def updateReg (f : Byte → Byte → Byte × Byte) (r : Reg8) (s : State) : State :=
  let o := f (s.get8 r) s.regs.f
  (s.set8 r o.1).setF o.2

/-- The same on the memory byte at `HL`: "read before write, nothing between them" (R221, R223, 44_rotate_shift_bit.md R254). -/
def updateMem (f : Byte → Byte → Byte × Byte) (s : State) : State :=
  let r := read8 s.hl s
  let o := f r.1 r.2.regs.f
  (write8 s.hl o.1 r.2).setF o.2

/-- R220: `INC B`. -/
def execInc_B (s : State) : Host.Outcome State Fault Refusal := done 0x04 false (updateReg inc8 .b s)

/-- R222: `DEC B`. -/
def execDec_B (s : State) : Host.Outcome State Fault Refusal := done 0x05 false (updateReg dec8 .b s)

/-- R220: `INC C`. -/
def execInc_C (s : State) : Host.Outcome State Fault Refusal := done 0x0C false (updateReg inc8 .c s)

/-- R222: `DEC C`. -/
def execDec_C (s : State) : Host.Outcome State Fault Refusal := done 0x0D false (updateReg dec8 .c s)

/-- R220: `INC D`. -/
def execInc_D (s : State) : Host.Outcome State Fault Refusal := done 0x14 false (updateReg inc8 .d s)

/-- R222: `DEC D`. -/
def execDec_D (s : State) : Host.Outcome State Fault Refusal := done 0x15 false (updateReg dec8 .d s)

/-- R220: `INC E`. -/
def execInc_E (s : State) : Host.Outcome State Fault Refusal := done 0x1C false (updateReg inc8 .e s)

/-- R222: `DEC E`. -/
def execDec_E (s : State) : Host.Outcome State Fault Refusal := done 0x1D false (updateReg dec8 .e s)

/-- R220: `INC H`. -/
def execInc_H (s : State) : Host.Outcome State Fault Refusal := done 0x24 false (updateReg inc8 .h s)

/-- R222: `DEC H`. -/
def execDec_H (s : State) : Host.Outcome State Fault Refusal := done 0x25 false (updateReg dec8 .h s)

/-- R224: `DAA`. -/
def execDaa (s : State) : Host.Outcome State Fault Refusal := done 0x27 false (updateReg daa .a s)

/-- R220: `INC L`. -/
def execInc_L (s : State) : Host.Outcome State Fault Refusal := done 0x2C false (updateReg inc8 .l s)

/-- R222: `DEC L`. -/
def execDec_L (s : State) : Host.Outcome State Fault Refusal := done 0x2D false (updateReg dec8 .l s)

/-- R225: `CPL`. -/
def execCpl (s : State) : Host.Outcome State Fault Refusal := done 0x2F false (updateReg cpl .a s)

/-- R221: `INC (HL)`. -/
def execInc_mHL (s : State) : Host.Outcome State Fault Refusal := done 0x34 false (updateMem inc8 s)

/-- R223: `DEC (HL)`. -/
def execDec_mHL (s : State) : Host.Outcome State Fault Refusal := done 0x35 false (updateMem dec8 s)

/-- R226: `SCF`. -/
def execScf (s : State) : Host.Outcome State Fault Refusal := done 0x37 false (s.setF (scf s.regs.f))

/-- R220: `INC A`. -/
def execInc_A (s : State) : Host.Outcome State Fault Refusal := done 0x3C false (updateReg inc8 .a s)

/-- R222: `DEC A`. -/
def execDec_A (s : State) : Host.Outcome State Fault Refusal := done 0x3D false (updateReg dec8 .a s)

/-- R227: `CCF`. -/
def execCcf (s : State) : Host.Outcome State Fault Refusal := done 0x3F false (s.setF (ccf s.regs.f))

/-- R202: `ADD A,B`. -/
def execAdd_A_B (s : State) : Host.Outcome State Fault Refusal := done 0x80 false (aluWith .add (s.get8 .b) s)

/-- R202: `ADD A,C`. -/
def execAdd_A_C (s : State) : Host.Outcome State Fault Refusal := done 0x81 false (aluWith .add (s.get8 .c) s)

/-- R202: `ADD A,D`. -/
def execAdd_A_D (s : State) : Host.Outcome State Fault Refusal := done 0x82 false (aluWith .add (s.get8 .d) s)

/-- R202: `ADD A,E`. -/
def execAdd_A_E (s : State) : Host.Outcome State Fault Refusal := done 0x83 false (aluWith .add (s.get8 .e) s)

/-- R202: `ADD A,H`. -/
def execAdd_A_H (s : State) : Host.Outcome State Fault Refusal := done 0x84 false (aluWith .add (s.get8 .h) s)

/-- R202: `ADD A,L`. -/
def execAdd_A_L (s : State) : Host.Outcome State Fault Refusal := done 0x85 false (aluWith .add (s.get8 .l) s)

/-- R210: `ADD A,(HL)`. -/
def execAdd_A_mHL (s : State) : Host.Outcome State Fault Refusal := done 0x86 false (aluMem .add s)

/-- R202: `ADD A,A`. -/
def execAdd_A_A (s : State) : Host.Outcome State Fault Refusal := done 0x87 false (aluWith .add (s.get8 .a) s)

/-- R203: `ADC A,B`. -/
def execAdc_A_B (s : State) : Host.Outcome State Fault Refusal := done 0x88 false (aluWith .adc (s.get8 .b) s)

/-- R203: `ADC A,C`. -/
def execAdc_A_C (s : State) : Host.Outcome State Fault Refusal := done 0x89 false (aluWith .adc (s.get8 .c) s)

/-- R203: `ADC A,D`. -/
def execAdc_A_D (s : State) : Host.Outcome State Fault Refusal := done 0x8A false (aluWith .adc (s.get8 .d) s)

/-- R203: `ADC A,E`. -/
def execAdc_A_E (s : State) : Host.Outcome State Fault Refusal := done 0x8B false (aluWith .adc (s.get8 .e) s)

/-- R203: `ADC A,H`. -/
def execAdc_A_H (s : State) : Host.Outcome State Fault Refusal := done 0x8C false (aluWith .adc (s.get8 .h) s)

/-- R203: `ADC A,L`. -/
def execAdc_A_L (s : State) : Host.Outcome State Fault Refusal := done 0x8D false (aluWith .adc (s.get8 .l) s)

/-- R211: `ADC A,(HL)`. -/
def execAdc_A_mHL (s : State) : Host.Outcome State Fault Refusal := done 0x8E false (aluMem .adc s)

/-- R203: `ADC A,A`. -/
def execAdc_A_A (s : State) : Host.Outcome State Fault Refusal := done 0x8F false (aluWith .adc (s.get8 .a) s)

/-- R204: `SUB B`. -/
def execSub_B (s : State) : Host.Outcome State Fault Refusal := done 0x90 false (aluWith .sub (s.get8 .b) s)

/-- R204: `SUB C`. -/
def execSub_C (s : State) : Host.Outcome State Fault Refusal := done 0x91 false (aluWith .sub (s.get8 .c) s)

/-- R204: `SUB D`. -/
def execSub_D (s : State) : Host.Outcome State Fault Refusal := done 0x92 false (aluWith .sub (s.get8 .d) s)

/-- R204: `SUB E`. -/
def execSub_E (s : State) : Host.Outcome State Fault Refusal := done 0x93 false (aluWith .sub (s.get8 .e) s)

/-- R204: `SUB H`. -/
def execSub_H (s : State) : Host.Outcome State Fault Refusal := done 0x94 false (aluWith .sub (s.get8 .h) s)

/-- R204: `SUB L`. -/
def execSub_L (s : State) : Host.Outcome State Fault Refusal := done 0x95 false (aluWith .sub (s.get8 .l) s)

/-- R212: `SUB (HL)`. -/
def execSub_mHL (s : State) : Host.Outcome State Fault Refusal := done 0x96 false (aluMem .sub s)

/-- R204: `SUB A`. -/
def execSub_A (s : State) : Host.Outcome State Fault Refusal := done 0x97 false (aluWith .sub (s.get8 .a) s)

/-- R205: `SBC A,B`. -/
def execSbc_A_B (s : State) : Host.Outcome State Fault Refusal := done 0x98 false (aluWith .sbc (s.get8 .b) s)

/-- R205: `SBC A,C`. -/
def execSbc_A_C (s : State) : Host.Outcome State Fault Refusal := done 0x99 false (aluWith .sbc (s.get8 .c) s)

/-- R205: `SBC A,D`. -/
def execSbc_A_D (s : State) : Host.Outcome State Fault Refusal := done 0x9A false (aluWith .sbc (s.get8 .d) s)

/-- R205: `SBC A,E`. -/
def execSbc_A_E (s : State) : Host.Outcome State Fault Refusal := done 0x9B false (aluWith .sbc (s.get8 .e) s)

/-- R205: `SBC A,H`. -/
def execSbc_A_H (s : State) : Host.Outcome State Fault Refusal := done 0x9C false (aluWith .sbc (s.get8 .h) s)

/-- R205: `SBC A,L`. -/
def execSbc_A_L (s : State) : Host.Outcome State Fault Refusal := done 0x9D false (aluWith .sbc (s.get8 .l) s)

/-- R213: `SBC A,(HL)`. -/
def execSbc_A_mHL (s : State) : Host.Outcome State Fault Refusal := done 0x9E false (aluMem .sbc s)

/-- R205: `SBC A,A`. -/
def execSbc_A_A (s : State) : Host.Outcome State Fault Refusal := done 0x9F false (aluWith .sbc (s.get8 .a) s)

/-- R206: `AND B`. -/
def execAnd_B (s : State) : Host.Outcome State Fault Refusal := done 0xA0 false (aluWith .and (s.get8 .b) s)

/-- R206: `AND C`. -/
def execAnd_C (s : State) : Host.Outcome State Fault Refusal := done 0xA1 false (aluWith .and (s.get8 .c) s)

/-- R206: `AND D`. -/
def execAnd_D (s : State) : Host.Outcome State Fault Refusal := done 0xA2 false (aluWith .and (s.get8 .d) s)

/-- R206: `AND E`. -/
def execAnd_E (s : State) : Host.Outcome State Fault Refusal := done 0xA3 false (aluWith .and (s.get8 .e) s)

/-- R206: `AND H`. -/
def execAnd_H (s : State) : Host.Outcome State Fault Refusal := done 0xA4 false (aluWith .and (s.get8 .h) s)

/-- R206: `AND L`. -/
def execAnd_L (s : State) : Host.Outcome State Fault Refusal := done 0xA5 false (aluWith .and (s.get8 .l) s)

/-- R214: `AND (HL)`. -/
def execAnd_mHL (s : State) : Host.Outcome State Fault Refusal := done 0xA6 false (aluMem .and s)

/-- R206: `AND A`. -/
def execAnd_A (s : State) : Host.Outcome State Fault Refusal := done 0xA7 false (aluWith .and (s.get8 .a) s)

/-- R207: `XOR B`. -/
def execXor_B (s : State) : Host.Outcome State Fault Refusal := done 0xA8 false (aluWith .xor (s.get8 .b) s)

/-- R207: `XOR C`. -/
def execXor_C (s : State) : Host.Outcome State Fault Refusal := done 0xA9 false (aluWith .xor (s.get8 .c) s)

/-- R207: `XOR D`. -/
def execXor_D (s : State) : Host.Outcome State Fault Refusal := done 0xAA false (aluWith .xor (s.get8 .d) s)

/-- R207: `XOR E`. -/
def execXor_E (s : State) : Host.Outcome State Fault Refusal := done 0xAB false (aluWith .xor (s.get8 .e) s)

/-- R207: `XOR H`. -/
def execXor_H (s : State) : Host.Outcome State Fault Refusal := done 0xAC false (aluWith .xor (s.get8 .h) s)

/-- R207: `XOR L`. -/
def execXor_L (s : State) : Host.Outcome State Fault Refusal := done 0xAD false (aluWith .xor (s.get8 .l) s)

/-- R215: `XOR (HL)`. -/
def execXor_mHL (s : State) : Host.Outcome State Fault Refusal := done 0xAE false (aluMem .xor s)

/-- R207: `XOR A`. -/
def execXor_A (s : State) : Host.Outcome State Fault Refusal := done 0xAF false (aluWith .xor (s.get8 .a) s)

/-- R208: `OR B`. -/
def execOr_B (s : State) : Host.Outcome State Fault Refusal := done 0xB0 false (aluWith .or (s.get8 .b) s)

/-- R208: `OR C`. -/
def execOr_C (s : State) : Host.Outcome State Fault Refusal := done 0xB1 false (aluWith .or (s.get8 .c) s)

/-- R208: `OR D`. -/
def execOr_D (s : State) : Host.Outcome State Fault Refusal := done 0xB2 false (aluWith .or (s.get8 .d) s)

/-- R208: `OR E`. -/
def execOr_E (s : State) : Host.Outcome State Fault Refusal := done 0xB3 false (aluWith .or (s.get8 .e) s)

/-- R208: `OR H`. -/
def execOr_H (s : State) : Host.Outcome State Fault Refusal := done 0xB4 false (aluWith .or (s.get8 .h) s)

/-- R208: `OR L`. -/
def execOr_L (s : State) : Host.Outcome State Fault Refusal := done 0xB5 false (aluWith .or (s.get8 .l) s)

/-- R216: `OR (HL)`. -/
def execOr_mHL (s : State) : Host.Outcome State Fault Refusal := done 0xB6 false (aluMem .or s)

/-- R208: `OR A`. -/
def execOr_A (s : State) : Host.Outcome State Fault Refusal := done 0xB7 false (aluWith .or (s.get8 .a) s)

/-- R209: `CP B`. -/
def execCp_B (s : State) : Host.Outcome State Fault Refusal := done 0xB8 false (aluWith .cp (s.get8 .b) s)

/-- R209: `CP C`. -/
def execCp_C (s : State) : Host.Outcome State Fault Refusal := done 0xB9 false (aluWith .cp (s.get8 .c) s)

/-- R209: `CP D`. -/
def execCp_D (s : State) : Host.Outcome State Fault Refusal := done 0xBA false (aluWith .cp (s.get8 .d) s)

/-- R209: `CP E`. -/
def execCp_E (s : State) : Host.Outcome State Fault Refusal := done 0xBB false (aluWith .cp (s.get8 .e) s)

/-- R209: `CP H`. -/
def execCp_H (s : State) : Host.Outcome State Fault Refusal := done 0xBC false (aluWith .cp (s.get8 .h) s)

/-- R209: `CP L`. -/
def execCp_L (s : State) : Host.Outcome State Fault Refusal := done 0xBD false (aluWith .cp (s.get8 .l) s)

/-- R217: `CP (HL)`. -/
def execCp_mHL (s : State) : Host.Outcome State Fault Refusal := done 0xBE false (aluMem .cp s)

/-- R209: `CP A`. -/
def execCp_A (s : State) : Host.Outcome State Fault Refusal := done 0xBF false (aluWith .cp (s.get8 .a) s)

/-- R228: `ADD A,n`. -/
def execAdd_A_n (n : Byte) (s : State) : Host.Outcome State Fault Refusal := done 0xC6 false (aluWith .add n s)

/-- R229: `ADC A,n`. -/
def execAdc_A_n (n : Byte) (s : State) : Host.Outcome State Fault Refusal := done 0xCE false (aluWith .adc n s)

/-- R230: `SUB n`. -/
def execSub_n (n : Byte) (s : State) : Host.Outcome State Fault Refusal := done 0xD6 false (aluWith .sub n s)

/-- R231: `SBC A,n`. -/
def execSbc_A_n (n : Byte) (s : State) : Host.Outcome State Fault Refusal := done 0xDE false (aluWith .sbc n s)

/-- R232: `AND n`. -/
def execAnd_n (n : Byte) (s : State) : Host.Outcome State Fault Refusal := done 0xE6 false (aluWith .and n s)

/-- R233: `XOR n`. -/
def execXor_n (n : Byte) (s : State) : Host.Outcome State Fault Refusal := done 0xEE false (aluWith .xor n s)

/-- R234: `OR n`. -/
def execOr_n (n : Byte) (s : State) : Host.Outcome State Fault Refusal := done 0xF6 false (aluWith .or n s)

/-- R235: `CP n`. -/
def execCp_n (n : Byte) (s : State) : Host.Outcome State Fault Refusal := done 0xFE false (aluWith .cp n s)

end Sys2Proof.Machine
end

