-- ==== Sys2Proof/Machine/BitOps.lean ====
section
/-! DEFINITION. Bit test, reset and set (44_rotate_shift_bit.md R263 to R265, R274 to R276). -/

namespace Sys2Proof.Machine

/-- `BIT b` of a byte: flags only (R263). -/
def testBit (b : Fin 8) (v : Byte) (s : State) : State := s.setF (bitF b v s.regs.f)

/-- `BIT b,(HL)`: the byte is read, nothing is written to memory (R274). -/
def testBitMem (b : Fin 8) (s : State) : State :=
  let r := read8 s.hl s
  testBit b r.1 r.2

/-- A register replaced by a function of it, no flag (R264, R265). -/
def mapReg (f : Byte → Byte) (r : Reg8) (s : State) : State := s.set8 r (f (s.get8 r))

/-- The memory byte at `HL` replaced by a function of it, no flag; the write happens whatever the value (R275, R276). -/
def mapMem (f : Byte → Byte) (s : State) : State :=
  let r := read8 s.hl s
  write8 s.hl (f r.1) r.2

/-- R263: `BIT 0,B`. -/
def execBit_0_B (s : State) : Host.Outcome State Fault Refusal := done 0xCB40 false (testBit 0 (s.get8 .b) s)

/-- R263: `BIT 0,C`. -/
def execBit_0_C (s : State) : Host.Outcome State Fault Refusal := done 0xCB41 false (testBit 0 (s.get8 .c) s)

/-- R263: `BIT 0,D`. -/
def execBit_0_D (s : State) : Host.Outcome State Fault Refusal := done 0xCB42 false (testBit 0 (s.get8 .d) s)

/-- R263: `BIT 0,E`. -/
def execBit_0_E (s : State) : Host.Outcome State Fault Refusal := done 0xCB43 false (testBit 0 (s.get8 .e) s)

/-- R263: `BIT 0,H`. -/
def execBit_0_H (s : State) : Host.Outcome State Fault Refusal := done 0xCB44 false (testBit 0 (s.get8 .h) s)

/-- R263: `BIT 0,L`. -/
def execBit_0_L (s : State) : Host.Outcome State Fault Refusal := done 0xCB45 false (testBit 0 (s.get8 .l) s)

/-- R274: `BIT 0,(HL)`. -/
def execBit_0_mHL (s : State) : Host.Outcome State Fault Refusal := done 0xCB46 false (testBitMem 0 s)

/-- R263: `BIT 0,A`. -/
def execBit_0_A (s : State) : Host.Outcome State Fault Refusal := done 0xCB47 false (testBit 0 (s.get8 .a) s)

/-- R263: `BIT 1,B`. -/
def execBit_1_B (s : State) : Host.Outcome State Fault Refusal := done 0xCB48 false (testBit 1 (s.get8 .b) s)

/-- R263: `BIT 1,C`. -/
def execBit_1_C (s : State) : Host.Outcome State Fault Refusal := done 0xCB49 false (testBit 1 (s.get8 .c) s)

/-- R263: `BIT 1,D`. -/
def execBit_1_D (s : State) : Host.Outcome State Fault Refusal := done 0xCB4A false (testBit 1 (s.get8 .d) s)

/-- R263: `BIT 1,E`. -/
def execBit_1_E (s : State) : Host.Outcome State Fault Refusal := done 0xCB4B false (testBit 1 (s.get8 .e) s)

/-- R263: `BIT 1,H`. -/
def execBit_1_H (s : State) : Host.Outcome State Fault Refusal := done 0xCB4C false (testBit 1 (s.get8 .h) s)

/-- R263: `BIT 1,L`. -/
def execBit_1_L (s : State) : Host.Outcome State Fault Refusal := done 0xCB4D false (testBit 1 (s.get8 .l) s)

/-- R274: `BIT 1,(HL)`. -/
def execBit_1_mHL (s : State) : Host.Outcome State Fault Refusal := done 0xCB4E false (testBitMem 1 s)

/-- R263: `BIT 1,A`. -/
def execBit_1_A (s : State) : Host.Outcome State Fault Refusal := done 0xCB4F false (testBit 1 (s.get8 .a) s)

/-- R263: `BIT 2,B`. -/
def execBit_2_B (s : State) : Host.Outcome State Fault Refusal := done 0xCB50 false (testBit 2 (s.get8 .b) s)

/-- R263: `BIT 2,C`. -/
def execBit_2_C (s : State) : Host.Outcome State Fault Refusal := done 0xCB51 false (testBit 2 (s.get8 .c) s)

/-- R263: `BIT 2,D`. -/
def execBit_2_D (s : State) : Host.Outcome State Fault Refusal := done 0xCB52 false (testBit 2 (s.get8 .d) s)

/-- R263: `BIT 2,E`. -/
def execBit_2_E (s : State) : Host.Outcome State Fault Refusal := done 0xCB53 false (testBit 2 (s.get8 .e) s)

/-- R263: `BIT 2,H`. -/
def execBit_2_H (s : State) : Host.Outcome State Fault Refusal := done 0xCB54 false (testBit 2 (s.get8 .h) s)

/-- R263: `BIT 2,L`. -/
def execBit_2_L (s : State) : Host.Outcome State Fault Refusal := done 0xCB55 false (testBit 2 (s.get8 .l) s)

/-- R274: `BIT 2,(HL)`. -/
def execBit_2_mHL (s : State) : Host.Outcome State Fault Refusal := done 0xCB56 false (testBitMem 2 s)

/-- R263: `BIT 2,A`. -/
def execBit_2_A (s : State) : Host.Outcome State Fault Refusal := done 0xCB57 false (testBit 2 (s.get8 .a) s)

/-- R263: `BIT 3,B`. -/
def execBit_3_B (s : State) : Host.Outcome State Fault Refusal := done 0xCB58 false (testBit 3 (s.get8 .b) s)

/-- R263: `BIT 3,C`. -/
def execBit_3_C (s : State) : Host.Outcome State Fault Refusal := done 0xCB59 false (testBit 3 (s.get8 .c) s)

/-- R263: `BIT 3,D`. -/
def execBit_3_D (s : State) : Host.Outcome State Fault Refusal := done 0xCB5A false (testBit 3 (s.get8 .d) s)

/-- R263: `BIT 3,E`. -/
def execBit_3_E (s : State) : Host.Outcome State Fault Refusal := done 0xCB5B false (testBit 3 (s.get8 .e) s)

/-- R263: `BIT 3,H`. -/
def execBit_3_H (s : State) : Host.Outcome State Fault Refusal := done 0xCB5C false (testBit 3 (s.get8 .h) s)

/-- R263: `BIT 3,L`. -/
def execBit_3_L (s : State) : Host.Outcome State Fault Refusal := done 0xCB5D false (testBit 3 (s.get8 .l) s)

/-- R274: `BIT 3,(HL)`. -/
def execBit_3_mHL (s : State) : Host.Outcome State Fault Refusal := done 0xCB5E false (testBitMem 3 s)

/-- R263: `BIT 3,A`. -/
def execBit_3_A (s : State) : Host.Outcome State Fault Refusal := done 0xCB5F false (testBit 3 (s.get8 .a) s)

/-- R263: `BIT 4,B`. -/
def execBit_4_B (s : State) : Host.Outcome State Fault Refusal := done 0xCB60 false (testBit 4 (s.get8 .b) s)

/-- R263: `BIT 4,C`. -/
def execBit_4_C (s : State) : Host.Outcome State Fault Refusal := done 0xCB61 false (testBit 4 (s.get8 .c) s)

/-- R263: `BIT 4,D`. -/
def execBit_4_D (s : State) : Host.Outcome State Fault Refusal := done 0xCB62 false (testBit 4 (s.get8 .d) s)

/-- R263: `BIT 4,E`. -/
def execBit_4_E (s : State) : Host.Outcome State Fault Refusal := done 0xCB63 false (testBit 4 (s.get8 .e) s)

/-- R263: `BIT 4,H`. -/
def execBit_4_H (s : State) : Host.Outcome State Fault Refusal := done 0xCB64 false (testBit 4 (s.get8 .h) s)

/-- R263: `BIT 4,L`. -/
def execBit_4_L (s : State) : Host.Outcome State Fault Refusal := done 0xCB65 false (testBit 4 (s.get8 .l) s)

/-- R274: `BIT 4,(HL)`. -/
def execBit_4_mHL (s : State) : Host.Outcome State Fault Refusal := done 0xCB66 false (testBitMem 4 s)

/-- R263: `BIT 4,A`. -/
def execBit_4_A (s : State) : Host.Outcome State Fault Refusal := done 0xCB67 false (testBit 4 (s.get8 .a) s)

/-- R263: `BIT 5,B`. -/
def execBit_5_B (s : State) : Host.Outcome State Fault Refusal := done 0xCB68 false (testBit 5 (s.get8 .b) s)

/-- R263: `BIT 5,C`. -/
def execBit_5_C (s : State) : Host.Outcome State Fault Refusal := done 0xCB69 false (testBit 5 (s.get8 .c) s)

/-- R263: `BIT 5,D`. -/
def execBit_5_D (s : State) : Host.Outcome State Fault Refusal := done 0xCB6A false (testBit 5 (s.get8 .d) s)

/-- R263: `BIT 5,E`. -/
def execBit_5_E (s : State) : Host.Outcome State Fault Refusal := done 0xCB6B false (testBit 5 (s.get8 .e) s)

/-- R263: `BIT 5,H`. -/
def execBit_5_H (s : State) : Host.Outcome State Fault Refusal := done 0xCB6C false (testBit 5 (s.get8 .h) s)

/-- R263: `BIT 5,L`. -/
def execBit_5_L (s : State) : Host.Outcome State Fault Refusal := done 0xCB6D false (testBit 5 (s.get8 .l) s)

/-- R274: `BIT 5,(HL)`. -/
def execBit_5_mHL (s : State) : Host.Outcome State Fault Refusal := done 0xCB6E false (testBitMem 5 s)

/-- R263: `BIT 5,A`. -/
def execBit_5_A (s : State) : Host.Outcome State Fault Refusal := done 0xCB6F false (testBit 5 (s.get8 .a) s)

/-- R263: `BIT 6,B`. -/
def execBit_6_B (s : State) : Host.Outcome State Fault Refusal := done 0xCB70 false (testBit 6 (s.get8 .b) s)

/-- R263: `BIT 6,C`. -/
def execBit_6_C (s : State) : Host.Outcome State Fault Refusal := done 0xCB71 false (testBit 6 (s.get8 .c) s)

/-- R263: `BIT 6,D`. -/
def execBit_6_D (s : State) : Host.Outcome State Fault Refusal := done 0xCB72 false (testBit 6 (s.get8 .d) s)

/-- R263: `BIT 6,E`. -/
def execBit_6_E (s : State) : Host.Outcome State Fault Refusal := done 0xCB73 false (testBit 6 (s.get8 .e) s)

/-- R263: `BIT 6,H`. -/
def execBit_6_H (s : State) : Host.Outcome State Fault Refusal := done 0xCB74 false (testBit 6 (s.get8 .h) s)

/-- R263: `BIT 6,L`. -/
def execBit_6_L (s : State) : Host.Outcome State Fault Refusal := done 0xCB75 false (testBit 6 (s.get8 .l) s)

/-- R274: `BIT 6,(HL)`. -/
def execBit_6_mHL (s : State) : Host.Outcome State Fault Refusal := done 0xCB76 false (testBitMem 6 s)

/-- R263: `BIT 6,A`. -/
def execBit_6_A (s : State) : Host.Outcome State Fault Refusal := done 0xCB77 false (testBit 6 (s.get8 .a) s)

/-- R263: `BIT 7,B`. -/
def execBit_7_B (s : State) : Host.Outcome State Fault Refusal := done 0xCB78 false (testBit 7 (s.get8 .b) s)

/-- R263: `BIT 7,C`. -/
def execBit_7_C (s : State) : Host.Outcome State Fault Refusal := done 0xCB79 false (testBit 7 (s.get8 .c) s)

/-- R263: `BIT 7,D`. -/
def execBit_7_D (s : State) : Host.Outcome State Fault Refusal := done 0xCB7A false (testBit 7 (s.get8 .d) s)

/-- R263: `BIT 7,E`. -/
def execBit_7_E (s : State) : Host.Outcome State Fault Refusal := done 0xCB7B false (testBit 7 (s.get8 .e) s)

/-- R263: `BIT 7,H`. -/
def execBit_7_H (s : State) : Host.Outcome State Fault Refusal := done 0xCB7C false (testBit 7 (s.get8 .h) s)

/-- R263: `BIT 7,L`. -/
def execBit_7_L (s : State) : Host.Outcome State Fault Refusal := done 0xCB7D false (testBit 7 (s.get8 .l) s)

/-- R274: `BIT 7,(HL)`. -/
def execBit_7_mHL (s : State) : Host.Outcome State Fault Refusal := done 0xCB7E false (testBitMem 7 s)

/-- R263: `BIT 7,A`. -/
def execBit_7_A (s : State) : Host.Outcome State Fault Refusal := done 0xCB7F false (testBit 7 (s.get8 .a) s)

/-- R264: `RES 0,B`. -/
def execRes_0_B (s : State) : Host.Outcome State Fault Refusal := done 0xCB80 false (mapReg (clearBit · 0) .b s)

/-- R264: `RES 0,C`. -/
def execRes_0_C (s : State) : Host.Outcome State Fault Refusal := done 0xCB81 false (mapReg (clearBit · 0) .c s)

/-- R264: `RES 0,D`. -/
def execRes_0_D (s : State) : Host.Outcome State Fault Refusal := done 0xCB82 false (mapReg (clearBit · 0) .d s)

/-- R264: `RES 0,E`. -/
def execRes_0_E (s : State) : Host.Outcome State Fault Refusal := done 0xCB83 false (mapReg (clearBit · 0) .e s)

/-- R264: `RES 0,H`. -/
def execRes_0_H (s : State) : Host.Outcome State Fault Refusal := done 0xCB84 false (mapReg (clearBit · 0) .h s)

/-- R264: `RES 0,L`. -/
def execRes_0_L (s : State) : Host.Outcome State Fault Refusal := done 0xCB85 false (mapReg (clearBit · 0) .l s)

/-- R275: `RES 0,(HL)`. -/
def execRes_0_mHL (s : State) : Host.Outcome State Fault Refusal := done 0xCB86 false (mapMem (clearBit · 0) s)

/-- R264: `RES 0,A`. -/
def execRes_0_A (s : State) : Host.Outcome State Fault Refusal := done 0xCB87 false (mapReg (clearBit · 0) .a s)

/-- R264: `RES 1,B`. -/
def execRes_1_B (s : State) : Host.Outcome State Fault Refusal := done 0xCB88 false (mapReg (clearBit · 1) .b s)

/-- R264: `RES 1,C`. -/
def execRes_1_C (s : State) : Host.Outcome State Fault Refusal := done 0xCB89 false (mapReg (clearBit · 1) .c s)

/-- R264: `RES 1,D`. -/
def execRes_1_D (s : State) : Host.Outcome State Fault Refusal := done 0xCB8A false (mapReg (clearBit · 1) .d s)

/-- R264: `RES 1,E`. -/
def execRes_1_E (s : State) : Host.Outcome State Fault Refusal := done 0xCB8B false (mapReg (clearBit · 1) .e s)

/-- R264: `RES 1,H`. -/
def execRes_1_H (s : State) : Host.Outcome State Fault Refusal := done 0xCB8C false (mapReg (clearBit · 1) .h s)

/-- R264: `RES 1,L`. -/
def execRes_1_L (s : State) : Host.Outcome State Fault Refusal := done 0xCB8D false (mapReg (clearBit · 1) .l s)

/-- R275: `RES 1,(HL)`. -/
def execRes_1_mHL (s : State) : Host.Outcome State Fault Refusal := done 0xCB8E false (mapMem (clearBit · 1) s)

/-- R264: `RES 1,A`. -/
def execRes_1_A (s : State) : Host.Outcome State Fault Refusal := done 0xCB8F false (mapReg (clearBit · 1) .a s)

/-- R264: `RES 2,B`. -/
def execRes_2_B (s : State) : Host.Outcome State Fault Refusal := done 0xCB90 false (mapReg (clearBit · 2) .b s)

/-- R264: `RES 2,C`. -/
def execRes_2_C (s : State) : Host.Outcome State Fault Refusal := done 0xCB91 false (mapReg (clearBit · 2) .c s)

/-- R264: `RES 2,D`. -/
def execRes_2_D (s : State) : Host.Outcome State Fault Refusal := done 0xCB92 false (mapReg (clearBit · 2) .d s)

/-- R264: `RES 2,E`. -/
def execRes_2_E (s : State) : Host.Outcome State Fault Refusal := done 0xCB93 false (mapReg (clearBit · 2) .e s)

/-- R264: `RES 2,H`. -/
def execRes_2_H (s : State) : Host.Outcome State Fault Refusal := done 0xCB94 false (mapReg (clearBit · 2) .h s)

/-- R264: `RES 2,L`. -/
def execRes_2_L (s : State) : Host.Outcome State Fault Refusal := done 0xCB95 false (mapReg (clearBit · 2) .l s)

/-- R275: `RES 2,(HL)`. -/
def execRes_2_mHL (s : State) : Host.Outcome State Fault Refusal := done 0xCB96 false (mapMem (clearBit · 2) s)

/-- R264: `RES 2,A`. -/
def execRes_2_A (s : State) : Host.Outcome State Fault Refusal := done 0xCB97 false (mapReg (clearBit · 2) .a s)

/-- R264: `RES 3,B`. -/
def execRes_3_B (s : State) : Host.Outcome State Fault Refusal := done 0xCB98 false (mapReg (clearBit · 3) .b s)

/-- R264: `RES 3,C`. -/
def execRes_3_C (s : State) : Host.Outcome State Fault Refusal := done 0xCB99 false (mapReg (clearBit · 3) .c s)

/-- R264: `RES 3,D`. -/
def execRes_3_D (s : State) : Host.Outcome State Fault Refusal := done 0xCB9A false (mapReg (clearBit · 3) .d s)

/-- R264: `RES 3,E`. -/
def execRes_3_E (s : State) : Host.Outcome State Fault Refusal := done 0xCB9B false (mapReg (clearBit · 3) .e s)

/-- R264: `RES 3,H`. -/
def execRes_3_H (s : State) : Host.Outcome State Fault Refusal := done 0xCB9C false (mapReg (clearBit · 3) .h s)

/-- R264: `RES 3,L`. -/
def execRes_3_L (s : State) : Host.Outcome State Fault Refusal := done 0xCB9D false (mapReg (clearBit · 3) .l s)

/-- R275: `RES 3,(HL)`. -/
def execRes_3_mHL (s : State) : Host.Outcome State Fault Refusal := done 0xCB9E false (mapMem (clearBit · 3) s)

/-- R264: `RES 3,A`. -/
def execRes_3_A (s : State) : Host.Outcome State Fault Refusal := done 0xCB9F false (mapReg (clearBit · 3) .a s)

/-- R264: `RES 4,B`. -/
def execRes_4_B (s : State) : Host.Outcome State Fault Refusal := done 0xCBA0 false (mapReg (clearBit · 4) .b s)

/-- R264: `RES 4,C`. -/
def execRes_4_C (s : State) : Host.Outcome State Fault Refusal := done 0xCBA1 false (mapReg (clearBit · 4) .c s)

/-- R264: `RES 4,D`. -/
def execRes_4_D (s : State) : Host.Outcome State Fault Refusal := done 0xCBA2 false (mapReg (clearBit · 4) .d s)

/-- R264: `RES 4,E`. -/
def execRes_4_E (s : State) : Host.Outcome State Fault Refusal := done 0xCBA3 false (mapReg (clearBit · 4) .e s)

/-- R264: `RES 4,H`. -/
def execRes_4_H (s : State) : Host.Outcome State Fault Refusal := done 0xCBA4 false (mapReg (clearBit · 4) .h s)

/-- R264: `RES 4,L`. -/
def execRes_4_L (s : State) : Host.Outcome State Fault Refusal := done 0xCBA5 false (mapReg (clearBit · 4) .l s)

/-- R275: `RES 4,(HL)`. -/
def execRes_4_mHL (s : State) : Host.Outcome State Fault Refusal := done 0xCBA6 false (mapMem (clearBit · 4) s)

/-- R264: `RES 4,A`. -/
def execRes_4_A (s : State) : Host.Outcome State Fault Refusal := done 0xCBA7 false (mapReg (clearBit · 4) .a s)

/-- R264: `RES 5,B`. -/
def execRes_5_B (s : State) : Host.Outcome State Fault Refusal := done 0xCBA8 false (mapReg (clearBit · 5) .b s)

/-- R264: `RES 5,C`. -/
def execRes_5_C (s : State) : Host.Outcome State Fault Refusal := done 0xCBA9 false (mapReg (clearBit · 5) .c s)

/-- R264: `RES 5,D`. -/
def execRes_5_D (s : State) : Host.Outcome State Fault Refusal := done 0xCBAA false (mapReg (clearBit · 5) .d s)

/-- R264: `RES 5,E`. -/
def execRes_5_E (s : State) : Host.Outcome State Fault Refusal := done 0xCBAB false (mapReg (clearBit · 5) .e s)

/-- R264: `RES 5,H`. -/
def execRes_5_H (s : State) : Host.Outcome State Fault Refusal := done 0xCBAC false (mapReg (clearBit · 5) .h s)

/-- R264: `RES 5,L`. -/
def execRes_5_L (s : State) : Host.Outcome State Fault Refusal := done 0xCBAD false (mapReg (clearBit · 5) .l s)

/-- R275: `RES 5,(HL)`. -/
def execRes_5_mHL (s : State) : Host.Outcome State Fault Refusal := done 0xCBAE false (mapMem (clearBit · 5) s)

/-- R264: `RES 5,A`. -/
def execRes_5_A (s : State) : Host.Outcome State Fault Refusal := done 0xCBAF false (mapReg (clearBit · 5) .a s)

/-- R264: `RES 6,B`. -/
def execRes_6_B (s : State) : Host.Outcome State Fault Refusal := done 0xCBB0 false (mapReg (clearBit · 6) .b s)

/-- R264: `RES 6,C`. -/
def execRes_6_C (s : State) : Host.Outcome State Fault Refusal := done 0xCBB1 false (mapReg (clearBit · 6) .c s)

/-- R264: `RES 6,D`. -/
def execRes_6_D (s : State) : Host.Outcome State Fault Refusal := done 0xCBB2 false (mapReg (clearBit · 6) .d s)

/-- R264: `RES 6,E`. -/
def execRes_6_E (s : State) : Host.Outcome State Fault Refusal := done 0xCBB3 false (mapReg (clearBit · 6) .e s)

/-- R264: `RES 6,H`. -/
def execRes_6_H (s : State) : Host.Outcome State Fault Refusal := done 0xCBB4 false (mapReg (clearBit · 6) .h s)

/-- R264: `RES 6,L`. -/
def execRes_6_L (s : State) : Host.Outcome State Fault Refusal := done 0xCBB5 false (mapReg (clearBit · 6) .l s)

/-- R275: `RES 6,(HL)`. -/
def execRes_6_mHL (s : State) : Host.Outcome State Fault Refusal := done 0xCBB6 false (mapMem (clearBit · 6) s)

/-- R264: `RES 6,A`. -/
def execRes_6_A (s : State) : Host.Outcome State Fault Refusal := done 0xCBB7 false (mapReg (clearBit · 6) .a s)

/-- R264: `RES 7,B`. -/
def execRes_7_B (s : State) : Host.Outcome State Fault Refusal := done 0xCBB8 false (mapReg (clearBit · 7) .b s)

/-- R264: `RES 7,C`. -/
def execRes_7_C (s : State) : Host.Outcome State Fault Refusal := done 0xCBB9 false (mapReg (clearBit · 7) .c s)

/-- R264: `RES 7,D`. -/
def execRes_7_D (s : State) : Host.Outcome State Fault Refusal := done 0xCBBA false (mapReg (clearBit · 7) .d s)

/-- R264: `RES 7,E`. -/
def execRes_7_E (s : State) : Host.Outcome State Fault Refusal := done 0xCBBB false (mapReg (clearBit · 7) .e s)

/-- R264: `RES 7,H`. -/
def execRes_7_H (s : State) : Host.Outcome State Fault Refusal := done 0xCBBC false (mapReg (clearBit · 7) .h s)

/-- R264: `RES 7,L`. -/
def execRes_7_L (s : State) : Host.Outcome State Fault Refusal := done 0xCBBD false (mapReg (clearBit · 7) .l s)

/-- R275: `RES 7,(HL)`. -/
def execRes_7_mHL (s : State) : Host.Outcome State Fault Refusal := done 0xCBBE false (mapMem (clearBit · 7) s)

/-- R264: `RES 7,A`. -/
def execRes_7_A (s : State) : Host.Outcome State Fault Refusal := done 0xCBBF false (mapReg (clearBit · 7) .a s)

/-- R265: `SET 0,B`. -/
def execSet_0_B (s : State) : Host.Outcome State Fault Refusal := done 0xCBC0 false (mapReg (setBit · 0) .b s)

/-- R265: `SET 0,C`. -/
def execSet_0_C (s : State) : Host.Outcome State Fault Refusal := done 0xCBC1 false (mapReg (setBit · 0) .c s)

/-- R265: `SET 0,D`. -/
def execSet_0_D (s : State) : Host.Outcome State Fault Refusal := done 0xCBC2 false (mapReg (setBit · 0) .d s)

/-- R265: `SET 0,E`. -/
def execSet_0_E (s : State) : Host.Outcome State Fault Refusal := done 0xCBC3 false (mapReg (setBit · 0) .e s)

/-- R265: `SET 0,H`. -/
def execSet_0_H (s : State) : Host.Outcome State Fault Refusal := done 0xCBC4 false (mapReg (setBit · 0) .h s)

/-- R265: `SET 0,L`. -/
def execSet_0_L (s : State) : Host.Outcome State Fault Refusal := done 0xCBC5 false (mapReg (setBit · 0) .l s)

/-- R276: `SET 0,(HL)`. -/
def execSet_0_mHL (s : State) : Host.Outcome State Fault Refusal := done 0xCBC6 false (mapMem (setBit · 0) s)

/-- R265: `SET 0,A`. -/
def execSet_0_A (s : State) : Host.Outcome State Fault Refusal := done 0xCBC7 false (mapReg (setBit · 0) .a s)

/-- R265: `SET 1,B`. -/
def execSet_1_B (s : State) : Host.Outcome State Fault Refusal := done 0xCBC8 false (mapReg (setBit · 1) .b s)

/-- R265: `SET 1,C`. -/
def execSet_1_C (s : State) : Host.Outcome State Fault Refusal := done 0xCBC9 false (mapReg (setBit · 1) .c s)

/-- R265: `SET 1,D`. -/
def execSet_1_D (s : State) : Host.Outcome State Fault Refusal := done 0xCBCA false (mapReg (setBit · 1) .d s)

/-- R265: `SET 1,E`. -/
def execSet_1_E (s : State) : Host.Outcome State Fault Refusal := done 0xCBCB false (mapReg (setBit · 1) .e s)

/-- R265: `SET 1,H`. -/
def execSet_1_H (s : State) : Host.Outcome State Fault Refusal := done 0xCBCC false (mapReg (setBit · 1) .h s)

/-- R265: `SET 1,L`. -/
def execSet_1_L (s : State) : Host.Outcome State Fault Refusal := done 0xCBCD false (mapReg (setBit · 1) .l s)

/-- R276: `SET 1,(HL)`. -/
def execSet_1_mHL (s : State) : Host.Outcome State Fault Refusal := done 0xCBCE false (mapMem (setBit · 1) s)

/-- R265: `SET 1,A`. -/
def execSet_1_A (s : State) : Host.Outcome State Fault Refusal := done 0xCBCF false (mapReg (setBit · 1) .a s)

/-- R265: `SET 2,B`. -/
def execSet_2_B (s : State) : Host.Outcome State Fault Refusal := done 0xCBD0 false (mapReg (setBit · 2) .b s)

/-- R265: `SET 2,C`. -/
def execSet_2_C (s : State) : Host.Outcome State Fault Refusal := done 0xCBD1 false (mapReg (setBit · 2) .c s)

/-- R265: `SET 2,D`. -/
def execSet_2_D (s : State) : Host.Outcome State Fault Refusal := done 0xCBD2 false (mapReg (setBit · 2) .d s)

/-- R265: `SET 2,E`. -/
def execSet_2_E (s : State) : Host.Outcome State Fault Refusal := done 0xCBD3 false (mapReg (setBit · 2) .e s)

/-- R265: `SET 2,H`. -/
def execSet_2_H (s : State) : Host.Outcome State Fault Refusal := done 0xCBD4 false (mapReg (setBit · 2) .h s)

/-- R265: `SET 2,L`. -/
def execSet_2_L (s : State) : Host.Outcome State Fault Refusal := done 0xCBD5 false (mapReg (setBit · 2) .l s)

/-- R276: `SET 2,(HL)`. -/
def execSet_2_mHL (s : State) : Host.Outcome State Fault Refusal := done 0xCBD6 false (mapMem (setBit · 2) s)

/-- R265: `SET 2,A`. -/
def execSet_2_A (s : State) : Host.Outcome State Fault Refusal := done 0xCBD7 false (mapReg (setBit · 2) .a s)

/-- R265: `SET 3,B`. -/
def execSet_3_B (s : State) : Host.Outcome State Fault Refusal := done 0xCBD8 false (mapReg (setBit · 3) .b s)

/-- R265: `SET 3,C`. -/
def execSet_3_C (s : State) : Host.Outcome State Fault Refusal := done 0xCBD9 false (mapReg (setBit · 3) .c s)

/-- R265: `SET 3,D`. -/
def execSet_3_D (s : State) : Host.Outcome State Fault Refusal := done 0xCBDA false (mapReg (setBit · 3) .d s)

/-- R265: `SET 3,E`. -/
def execSet_3_E (s : State) : Host.Outcome State Fault Refusal := done 0xCBDB false (mapReg (setBit · 3) .e s)

/-- R265: `SET 3,H`. -/
def execSet_3_H (s : State) : Host.Outcome State Fault Refusal := done 0xCBDC false (mapReg (setBit · 3) .h s)

/-- R265: `SET 3,L`. -/
def execSet_3_L (s : State) : Host.Outcome State Fault Refusal := done 0xCBDD false (mapReg (setBit · 3) .l s)

/-- R276: `SET 3,(HL)`. -/
def execSet_3_mHL (s : State) : Host.Outcome State Fault Refusal := done 0xCBDE false (mapMem (setBit · 3) s)

/-- R265: `SET 3,A`. -/
def execSet_3_A (s : State) : Host.Outcome State Fault Refusal := done 0xCBDF false (mapReg (setBit · 3) .a s)

/-- R265: `SET 4,B`. -/
def execSet_4_B (s : State) : Host.Outcome State Fault Refusal := done 0xCBE0 false (mapReg (setBit · 4) .b s)

/-- R265: `SET 4,C`. -/
def execSet_4_C (s : State) : Host.Outcome State Fault Refusal := done 0xCBE1 false (mapReg (setBit · 4) .c s)

/-- R265: `SET 4,D`. -/
def execSet_4_D (s : State) : Host.Outcome State Fault Refusal := done 0xCBE2 false (mapReg (setBit · 4) .d s)

/-- R265: `SET 4,E`. -/
def execSet_4_E (s : State) : Host.Outcome State Fault Refusal := done 0xCBE3 false (mapReg (setBit · 4) .e s)

/-- R265: `SET 4,H`. -/
def execSet_4_H (s : State) : Host.Outcome State Fault Refusal := done 0xCBE4 false (mapReg (setBit · 4) .h s)

/-- R265: `SET 4,L`. -/
def execSet_4_L (s : State) : Host.Outcome State Fault Refusal := done 0xCBE5 false (mapReg (setBit · 4) .l s)

/-- R276: `SET 4,(HL)`. -/
def execSet_4_mHL (s : State) : Host.Outcome State Fault Refusal := done 0xCBE6 false (mapMem (setBit · 4) s)

/-- R265: `SET 4,A`. -/
def execSet_4_A (s : State) : Host.Outcome State Fault Refusal := done 0xCBE7 false (mapReg (setBit · 4) .a s)

/-- R265: `SET 5,B`. -/
def execSet_5_B (s : State) : Host.Outcome State Fault Refusal := done 0xCBE8 false (mapReg (setBit · 5) .b s)

/-- R265: `SET 5,C`. -/
def execSet_5_C (s : State) : Host.Outcome State Fault Refusal := done 0xCBE9 false (mapReg (setBit · 5) .c s)

/-- R265: `SET 5,D`. -/
def execSet_5_D (s : State) : Host.Outcome State Fault Refusal := done 0xCBEA false (mapReg (setBit · 5) .d s)

/-- R265: `SET 5,E`. -/
def execSet_5_E (s : State) : Host.Outcome State Fault Refusal := done 0xCBEB false (mapReg (setBit · 5) .e s)

/-- R265: `SET 5,H`. -/
def execSet_5_H (s : State) : Host.Outcome State Fault Refusal := done 0xCBEC false (mapReg (setBit · 5) .h s)

/-- R265: `SET 5,L`. -/
def execSet_5_L (s : State) : Host.Outcome State Fault Refusal := done 0xCBED false (mapReg (setBit · 5) .l s)

/-- R276: `SET 5,(HL)`. -/
def execSet_5_mHL (s : State) : Host.Outcome State Fault Refusal := done 0xCBEE false (mapMem (setBit · 5) s)

/-- R265: `SET 5,A`. -/
def execSet_5_A (s : State) : Host.Outcome State Fault Refusal := done 0xCBEF false (mapReg (setBit · 5) .a s)

/-- R265: `SET 6,B`. -/
def execSet_6_B (s : State) : Host.Outcome State Fault Refusal := done 0xCBF0 false (mapReg (setBit · 6) .b s)

/-- R265: `SET 6,C`. -/
def execSet_6_C (s : State) : Host.Outcome State Fault Refusal := done 0xCBF1 false (mapReg (setBit · 6) .c s)

/-- R265: `SET 6,D`. -/
def execSet_6_D (s : State) : Host.Outcome State Fault Refusal := done 0xCBF2 false (mapReg (setBit · 6) .d s)

/-- R265: `SET 6,E`. -/
def execSet_6_E (s : State) : Host.Outcome State Fault Refusal := done 0xCBF3 false (mapReg (setBit · 6) .e s)

/-- R265: `SET 6,H`. -/
def execSet_6_H (s : State) : Host.Outcome State Fault Refusal := done 0xCBF4 false (mapReg (setBit · 6) .h s)

/-- R265: `SET 6,L`. -/
def execSet_6_L (s : State) : Host.Outcome State Fault Refusal := done 0xCBF5 false (mapReg (setBit · 6) .l s)

/-- R276: `SET 6,(HL)`. -/
def execSet_6_mHL (s : State) : Host.Outcome State Fault Refusal := done 0xCBF6 false (mapMem (setBit · 6) s)

/-- R265: `SET 6,A`. -/
def execSet_6_A (s : State) : Host.Outcome State Fault Refusal := done 0xCBF7 false (mapReg (setBit · 6) .a s)

/-- R265: `SET 7,B`. -/
def execSet_7_B (s : State) : Host.Outcome State Fault Refusal := done 0xCBF8 false (mapReg (setBit · 7) .b s)

/-- R265: `SET 7,C`. -/
def execSet_7_C (s : State) : Host.Outcome State Fault Refusal := done 0xCBF9 false (mapReg (setBit · 7) .c s)

/-- R265: `SET 7,D`. -/
def execSet_7_D (s : State) : Host.Outcome State Fault Refusal := done 0xCBFA false (mapReg (setBit · 7) .d s)

/-- R265: `SET 7,E`. -/
def execSet_7_E (s : State) : Host.Outcome State Fault Refusal := done 0xCBFB false (mapReg (setBit · 7) .e s)

/-- R265: `SET 7,H`. -/
def execSet_7_H (s : State) : Host.Outcome State Fault Refusal := done 0xCBFC false (mapReg (setBit · 7) .h s)

/-- R265: `SET 7,L`. -/
def execSet_7_L (s : State) : Host.Outcome State Fault Refusal := done 0xCBFD false (mapReg (setBit · 7) .l s)

/-- R276: `SET 7,(HL)`. -/
def execSet_7_mHL (s : State) : Host.Outcome State Fault Refusal := done 0xCBFE false (mapMem (setBit · 7) s)

/-- R265: `SET 7,A`. -/
def execSet_7_A (s : State) : Host.Outcome State Fault Refusal := done 0xCBFF false (mapReg (setBit · 7) .a s)

end Sys2Proof.Machine
end

