-- ==== Sys2Proof/Machine/Control.lean ====
section
/-! DEFINITION. The control-transfer instructions (45_control.md R280 to R292). No instruction here writes a flag. -/

namespace Sys2Proof.Machine

/-- `pc <- trunc16(PC + sext_16(e))` (R284). -/
def jumpRel (e : Byte) (s : State) : State := s.setPC (s.regs.pc + sext16 e)

/-- `push16(PC); pc <- target` (R286, R290). -/
def callTo (target : Addr) (s : State) : State := (push16 s.regs.pc s).setPC target

/-- A conditional transfer: performed and charged as taken when the condition holds, nothing more and charged as untaken when not
(R280). -/
def whenCond (key : Nat) (cc : Cond) (transfer : State → State) (s : State) : Host.Outcome State Fault Refusal :=
  done key (s.cond cc) (if s.cond cc then transfer s else s)

/-- R284: `JR e`. -/
def execJr_e (e : Byte) (s : State) : Host.Outcome State Fault Refusal := done 0x18 false (jumpRel e s)

/-- R285: `JR NZ,e`. -/
def execJr_NZ_e (e : Byte) (s : State) : Host.Outcome State Fault Refusal := whenCond 0x20 .nz (jumpRel e) s

/-- R285: `JR Z,e`. -/
def execJr_Z_e (e : Byte) (s : State) : Host.Outcome State Fault Refusal := whenCond 0x28 .z (jumpRel e) s

/-- R285: `JR NC,e`. -/
def execJr_NC_e (e : Byte) (s : State) : Host.Outcome State Fault Refusal := whenCond 0x30 .nc (jumpRel e) s

/-- R285: `JR C,e`. -/
def execJr_C_e (e : Byte) (s : State) : Host.Outcome State Fault Refusal := whenCond 0x38 .c (jumpRel e) s

/-- R289: `RET NZ`. -/
def execRet_NZ (s : State) : Host.Outcome State Fault Refusal := whenCond 0xC0 .nz popPC s

/-- R282: `JP NZ,nn`. -/
def execJp_NZ_nn (nn : Addr) (s : State) : Host.Outcome State Fault Refusal := whenCond 0xC2 .nz (fun t => t.setPC nn) s

/-- R281: `JP nn`. -/
def execJp_nn (nn : Addr) (s : State) : Host.Outcome State Fault Refusal := done 0xC3 false (s.setPC nn)

/-- R287: `CALL NZ,nn`. -/
def execCall_NZ_nn (nn : Addr) (s : State) : Host.Outcome State Fault Refusal := whenCond 0xC4 .nz (callTo nn) s

/-- R290: `RST 00H`. -/
def execRst_00H (s : State) : Host.Outcome State Fault Refusal := done 0xC7 false (callTo (rstTarget 0) s)

/-- R289: `RET Z`. -/
def execRet_Z (s : State) : Host.Outcome State Fault Refusal := whenCond 0xC8 .z popPC s

/-- R288: `RET`. -/
def execRet (s : State) : Host.Outcome State Fault Refusal := done 0xC9 false (popPC s)

/-- R282: `JP Z,nn`. -/
def execJp_Z_nn (nn : Addr) (s : State) : Host.Outcome State Fault Refusal := whenCond 0xCA .z (fun t => t.setPC nn) s

/-- R287: `CALL Z,nn`. -/
def execCall_Z_nn (nn : Addr) (s : State) : Host.Outcome State Fault Refusal := whenCond 0xCC .z (callTo nn) s

/-- R286: `CALL nn`. -/
def execCall_nn (nn : Addr) (s : State) : Host.Outcome State Fault Refusal := done 0xCD false (callTo nn s)

/-- R290: `RST 08H`. -/
def execRst_08H (s : State) : Host.Outcome State Fault Refusal := done 0xCF false (callTo (rstTarget 1) s)

/-- R289: `RET NC`. -/
def execRet_NC (s : State) : Host.Outcome State Fault Refusal := whenCond 0xD0 .nc popPC s

/-- R282: `JP NC,nn`. -/
def execJp_NC_nn (nn : Addr) (s : State) : Host.Outcome State Fault Refusal := whenCond 0xD2 .nc (fun t => t.setPC nn) s

/-- R287: `CALL NC,nn`. -/
def execCall_NC_nn (nn : Addr) (s : State) : Host.Outcome State Fault Refusal := whenCond 0xD4 .nc (callTo nn) s

/-- R290: `RST 10H`. -/
def execRst_10H (s : State) : Host.Outcome State Fault Refusal := done 0xD7 false (callTo (rstTarget 2) s)

/-- R289: `RET C`. -/
def execRet_C (s : State) : Host.Outcome State Fault Refusal := whenCond 0xD8 .c popPC s

/-- R292: `RETI`. -/
def execReti (s : State) : Host.Outcome State Fault Refusal := done 0xD9 false (interruptReturn s)

/-- R282: `JP C,nn`. -/
def execJp_C_nn (nn : Addr) (s : State) : Host.Outcome State Fault Refusal := whenCond 0xDA .c (fun t => t.setPC nn) s

/-- R287: `CALL C,nn`. -/
def execCall_C_nn (nn : Addr) (s : State) : Host.Outcome State Fault Refusal := whenCond 0xDC .c (callTo nn) s

/-- R290: `RST 18H`. -/
def execRst_18H (s : State) : Host.Outcome State Fault Refusal := done 0xDF false (callTo (rstTarget 3) s)

/-- R290: `RST 20H`. -/
def execRst_20H (s : State) : Host.Outcome State Fault Refusal := done 0xE7 false (callTo (rstTarget 4) s)

/-- R283: `JP HL`. -/
def execJp_HL (s : State) : Host.Outcome State Fault Refusal := done 0xE9 false (s.setPC s.hl)

/-- R290: `RST 28H`. -/
def execRst_28H (s : State) : Host.Outcome State Fault Refusal := done 0xEF false (callTo (rstTarget 5) s)

/-- R290: `RST 30H`. -/
def execRst_30H (s : State) : Host.Outcome State Fault Refusal := done 0xF7 false (callTo (rstTarget 6) s)

/-- R290: `RST 38H`. -/
def execRst_38H (s : State) : Host.Outcome State Fault Refusal := done 0xFF false (callTo (rstTarget 7) s)

end Sys2Proof.Machine
end

