-- ==== Sys2Proof/Machine/Load16.lean ====
section
/-! DEFINITION. The 16-bit loads and the stack instructions (41_load16_stack.md R182 to R189). -/

namespace Sys2Proof.Machine

/-- `HL <- SP + e` with the flags of `addsp`; `SP` is not changed (R185). -/
def ldHLSp (e : Byte) (s : State) : State :=
  let o := addSp s.regs.sp e
  (s.setRP .hl o.1).setF o.2

/-- `rp2[p] <- pop16()`; for `AF` the popped low byte is masked (R187, R189). -/
def popPair (p : RP2) (s : State) : State :=
  let r := pop16 s
  r.2.setRP2 p r.1

/-- R182: `LD BC,nn`. -/
def execLd_BC_nn (nn : Addr) (s : State) : Host.Outcome State Fault Refusal := done 0x01 false (s.setRP .bc nn)

/-- R183: `LD (nn),SP`. -/
def execLd_mnn_SP (nn : Addr) (s : State) : Host.Outcome State Fault Refusal := done 0x08 false (write16 nn s.regs.sp s)

/-- R182: `LD DE,nn`. -/
def execLd_DE_nn (nn : Addr) (s : State) : Host.Outcome State Fault Refusal := done 0x11 false (s.setRP .de nn)

/-- R182: `LD HL,nn`. -/
def execLd_HL_nn (nn : Addr) (s : State) : Host.Outcome State Fault Refusal := done 0x21 false (s.setRP .hl nn)

/-- R182: `LD SP,nn`. -/
def execLd_SP_nn (nn : Addr) (s : State) : Host.Outcome State Fault Refusal := done 0x31 false (s.setRP .sp nn)

/-- R187: `POP BC`. -/
def execPop_BC (s : State) : Host.Outcome State Fault Refusal := done 0xC1 false (popPair .bc s)

/-- R186: `PUSH BC`. -/
def execPush_BC (s : State) : Host.Outcome State Fault Refusal := done 0xC5 false (push16 (s.getRP2 .bc) s)

/-- R187: `POP DE`. -/
def execPop_DE (s : State) : Host.Outcome State Fault Refusal := done 0xD1 false (popPair .de s)

/-- R186: `PUSH DE`. -/
def execPush_DE (s : State) : Host.Outcome State Fault Refusal := done 0xD5 false (push16 (s.getRP2 .de) s)

/-- R187: `POP HL`. -/
def execPop_HL (s : State) : Host.Outcome State Fault Refusal := done 0xE1 false (popPair .hl s)

/-- R186: `PUSH HL`. -/
def execPush_HL (s : State) : Host.Outcome State Fault Refusal := done 0xE5 false (push16 (s.getRP2 .hl) s)

/-- R189: `POP AF`. -/
def execPop_AF (s : State) : Host.Outcome State Fault Refusal := done 0xF1 false (popPair .af s)

/-- R188: `PUSH AF`. -/
def execPush_AF (s : State) : Host.Outcome State Fault Refusal := done 0xF5 false (push16 (s.getRP2 .af) s)

/-- R185: `LD HL,SP+e`. -/
def execLd_HL_SPe (e : Byte) (s : State) : Host.Outcome State Fault Refusal := done 0xF8 false (ldHLSp e s)

/-- R184: `LD SP,HL`. -/
def execLd_SP_HL (s : State) : Host.Outcome State Fault Refusal := done 0xF9 false (s.setSP s.hl)

end Sys2Proof.Machine
end

