-- ==== Sys2Proof/Machine/Load8.lean ====
section
/-! DEFINITION. The 8-bit loads (40_load8.md R150 to R168). No load writes a flag (R169). -/

namespace Sys2Proof.Machine

/-- `x[y] <- x[z]` (R150). -/
def ldRegReg (rd rs : Reg8) (s : State) : State := s.set8 rd (s.get8 rs)

/-- `x[y] <- n` (R151). -/
def ldRegImm (rd : Reg8) (n : Byte) (s : State) : State := s.set8 rd n

/-- `x[y] <- MemRead(addr, 1)` (R152, R155, R156, R159, R161, R163). -/
def ldRegFrom (rd : Reg8) (addr : Addr) (s : State) : State :=
  let r := read8 addr s
  r.2.set8 rd r.1

/-- `MemWrite(addr, 1, v)` (R153, R154, R157, R158, R160, R162, R164). -/
def ldTo (addr : Addr) (v : Byte) (s : State) : State := write8 addr v s

/-- `A <- MemRead(HL, 1); HL <- trunc16(HL + step)` (R165, R166). -/
def ldAStep (step : Addr) (s : State) : State := (ldRegFrom .a s.hl s).setRP .hl (s.hl + step)

/-- `MemWrite(HL, 1, A); HL <- trunc16(HL + step)` (R167, R168). -/
def stAStep (step : Addr) (s : State) : State := (ldTo s.hl s.regs.a s).setRP .hl (s.hl + step)

/-- R157: `LD (BC),A`. -/
def execLd_mBC_A (s : State) : Host.Outcome State Fault Refusal := done 0x02 false (ldTo s.bc s.regs.a s)

/-- R151: `LD B,n`. -/
def execLd_B_n (n : Byte) (s : State) : Host.Outcome State Fault Refusal := done 0x06 false (ldRegImm .b n s)

/-- R155: `LD A,(BC)`. -/
def execLd_A_mBC (s : State) : Host.Outcome State Fault Refusal := done 0x0A false (ldRegFrom .a s.bc s)

/-- R151: `LD C,n`. -/
def execLd_C_n (n : Byte) (s : State) : Host.Outcome State Fault Refusal := done 0x0E false (ldRegImm .c n s)

/-- R158: `LD (DE),A`. -/
def execLd_mDE_A (s : State) : Host.Outcome State Fault Refusal := done 0x12 false (ldTo s.de s.regs.a s)

/-- R151: `LD D,n`. -/
def execLd_D_n (n : Byte) (s : State) : Host.Outcome State Fault Refusal := done 0x16 false (ldRegImm .d n s)

/-- R156: `LD A,(DE)`. -/
def execLd_A_mDE (s : State) : Host.Outcome State Fault Refusal := done 0x1A false (ldRegFrom .a s.de s)

/-- R151: `LD E,n`. -/
def execLd_E_n (n : Byte) (s : State) : Host.Outcome State Fault Refusal := done 0x1E false (ldRegImm .e n s)

/-- R167: `LD (HL+),A`. -/
def execLd_mHLi_A (s : State) : Host.Outcome State Fault Refusal := done 0x22 false (stAStep 1 s)

/-- R151: `LD H,n`. -/
def execLd_H_n (n : Byte) (s : State) : Host.Outcome State Fault Refusal := done 0x26 false (ldRegImm .h n s)

/-- R165: `LD A,(HL+)`. -/
def execLd_A_mHLi (s : State) : Host.Outcome State Fault Refusal := done 0x2A false (ldAStep 1 s)

/-- R151: `LD L,n`. -/
def execLd_L_n (n : Byte) (s : State) : Host.Outcome State Fault Refusal := done 0x2E false (ldRegImm .l n s)

/-- R168: `LD (HL-),A`. -/
def execLd_mHLd_A (s : State) : Host.Outcome State Fault Refusal := done 0x32 false (stAStep (-1) s)

/-- R154: `LD (HL),n`. -/
def execLd_mHL_n (n : Byte) (s : State) : Host.Outcome State Fault Refusal := done 0x36 false (ldTo s.hl n s)

/-- R166: `LD A,(HL-)`. -/
def execLd_A_mHLd (s : State) : Host.Outcome State Fault Refusal := done 0x3A false (ldAStep (-1) s)

/-- R151: `LD A,n`. -/
def execLd_A_n (n : Byte) (s : State) : Host.Outcome State Fault Refusal := done 0x3E false (ldRegImm .a n s)

/-- R150: `LD B,B`. -/
def execLd_B_B (s : State) : Host.Outcome State Fault Refusal := done 0x40 false (ldRegReg .b .b s)

/-- R150: `LD B,C`. -/
def execLd_B_C (s : State) : Host.Outcome State Fault Refusal := done 0x41 false (ldRegReg .b .c s)

/-- R150: `LD B,D`. -/
def execLd_B_D (s : State) : Host.Outcome State Fault Refusal := done 0x42 false (ldRegReg .b .d s)

/-- R150: `LD B,E`. -/
def execLd_B_E (s : State) : Host.Outcome State Fault Refusal := done 0x43 false (ldRegReg .b .e s)

/-- R150: `LD B,H`. -/
def execLd_B_H (s : State) : Host.Outcome State Fault Refusal := done 0x44 false (ldRegReg .b .h s)

/-- R150: `LD B,L`. -/
def execLd_B_L (s : State) : Host.Outcome State Fault Refusal := done 0x45 false (ldRegReg .b .l s)

/-- R152: `LD B,(HL)`. -/
def execLd_B_mHL (s : State) : Host.Outcome State Fault Refusal := done 0x46 false (ldRegFrom .b s.hl s)

/-- R150: `LD B,A`. -/
def execLd_B_A (s : State) : Host.Outcome State Fault Refusal := done 0x47 false (ldRegReg .b .a s)

/-- R150: `LD C,B`. -/
def execLd_C_B (s : State) : Host.Outcome State Fault Refusal := done 0x48 false (ldRegReg .c .b s)

/-- R150: `LD C,C`. -/
def execLd_C_C (s : State) : Host.Outcome State Fault Refusal := done 0x49 false (ldRegReg .c .c s)

/-- R150: `LD C,D`. -/
def execLd_C_D (s : State) : Host.Outcome State Fault Refusal := done 0x4A false (ldRegReg .c .d s)

/-- R150: `LD C,E`. -/
def execLd_C_E (s : State) : Host.Outcome State Fault Refusal := done 0x4B false (ldRegReg .c .e s)

/-- R150: `LD C,H`. -/
def execLd_C_H (s : State) : Host.Outcome State Fault Refusal := done 0x4C false (ldRegReg .c .h s)

/-- R150: `LD C,L`. -/
def execLd_C_L (s : State) : Host.Outcome State Fault Refusal := done 0x4D false (ldRegReg .c .l s)

/-- R152: `LD C,(HL)`. -/
def execLd_C_mHL (s : State) : Host.Outcome State Fault Refusal := done 0x4E false (ldRegFrom .c s.hl s)

/-- R150: `LD C,A`. -/
def execLd_C_A (s : State) : Host.Outcome State Fault Refusal := done 0x4F false (ldRegReg .c .a s)

/-- R150: `LD D,B`. -/
def execLd_D_B (s : State) : Host.Outcome State Fault Refusal := done 0x50 false (ldRegReg .d .b s)

/-- R150: `LD D,C`. -/
def execLd_D_C (s : State) : Host.Outcome State Fault Refusal := done 0x51 false (ldRegReg .d .c s)

/-- R150: `LD D,D`. -/
def execLd_D_D (s : State) : Host.Outcome State Fault Refusal := done 0x52 false (ldRegReg .d .d s)

/-- R150: `LD D,E`. -/
def execLd_D_E (s : State) : Host.Outcome State Fault Refusal := done 0x53 false (ldRegReg .d .e s)

/-- R150: `LD D,H`. -/
def execLd_D_H (s : State) : Host.Outcome State Fault Refusal := done 0x54 false (ldRegReg .d .h s)

/-- R150: `LD D,L`. -/
def execLd_D_L (s : State) : Host.Outcome State Fault Refusal := done 0x55 false (ldRegReg .d .l s)

/-- R152: `LD D,(HL)`. -/
def execLd_D_mHL (s : State) : Host.Outcome State Fault Refusal := done 0x56 false (ldRegFrom .d s.hl s)

/-- R150: `LD D,A`. -/
def execLd_D_A (s : State) : Host.Outcome State Fault Refusal := done 0x57 false (ldRegReg .d .a s)

/-- R150: `LD E,B`. -/
def execLd_E_B (s : State) : Host.Outcome State Fault Refusal := done 0x58 false (ldRegReg .e .b s)

/-- R150: `LD E,C`. -/
def execLd_E_C (s : State) : Host.Outcome State Fault Refusal := done 0x59 false (ldRegReg .e .c s)

/-- R150: `LD E,D`. -/
def execLd_E_D (s : State) : Host.Outcome State Fault Refusal := done 0x5A false (ldRegReg .e .d s)

/-- R150: `LD E,E`. -/
def execLd_E_E (s : State) : Host.Outcome State Fault Refusal := done 0x5B false (ldRegReg .e .e s)

/-- R150: `LD E,H`. -/
def execLd_E_H (s : State) : Host.Outcome State Fault Refusal := done 0x5C false (ldRegReg .e .h s)

/-- R150: `LD E,L`. -/
def execLd_E_L (s : State) : Host.Outcome State Fault Refusal := done 0x5D false (ldRegReg .e .l s)

/-- R152: `LD E,(HL)`. -/
def execLd_E_mHL (s : State) : Host.Outcome State Fault Refusal := done 0x5E false (ldRegFrom .e s.hl s)

/-- R150: `LD E,A`. -/
def execLd_E_A (s : State) : Host.Outcome State Fault Refusal := done 0x5F false (ldRegReg .e .a s)

/-- R150: `LD H,B`. -/
def execLd_H_B (s : State) : Host.Outcome State Fault Refusal := done 0x60 false (ldRegReg .h .b s)

/-- R150: `LD H,C`. -/
def execLd_H_C (s : State) : Host.Outcome State Fault Refusal := done 0x61 false (ldRegReg .h .c s)

/-- R150: `LD H,D`. -/
def execLd_H_D (s : State) : Host.Outcome State Fault Refusal := done 0x62 false (ldRegReg .h .d s)

/-- R150: `LD H,E`. -/
def execLd_H_E (s : State) : Host.Outcome State Fault Refusal := done 0x63 false (ldRegReg .h .e s)

/-- R150: `LD H,H`. -/
def execLd_H_H (s : State) : Host.Outcome State Fault Refusal := done 0x64 false (ldRegReg .h .h s)

/-- R150: `LD H,L`. -/
def execLd_H_L (s : State) : Host.Outcome State Fault Refusal := done 0x65 false (ldRegReg .h .l s)

/-- R152: `LD H,(HL)`. -/
def execLd_H_mHL (s : State) : Host.Outcome State Fault Refusal := done 0x66 false (ldRegFrom .h s.hl s)

/-- R150: `LD H,A`. -/
def execLd_H_A (s : State) : Host.Outcome State Fault Refusal := done 0x67 false (ldRegReg .h .a s)

/-- R150: `LD L,B`. -/
def execLd_L_B (s : State) : Host.Outcome State Fault Refusal := done 0x68 false (ldRegReg .l .b s)

/-- R150: `LD L,C`. -/
def execLd_L_C (s : State) : Host.Outcome State Fault Refusal := done 0x69 false (ldRegReg .l .c s)

/-- R150: `LD L,D`. -/
def execLd_L_D (s : State) : Host.Outcome State Fault Refusal := done 0x6A false (ldRegReg .l .d s)

/-- R150: `LD L,E`. -/
def execLd_L_E (s : State) : Host.Outcome State Fault Refusal := done 0x6B false (ldRegReg .l .e s)

/-- R150: `LD L,H`. -/
def execLd_L_H (s : State) : Host.Outcome State Fault Refusal := done 0x6C false (ldRegReg .l .h s)

/-- R150: `LD L,L`. -/
def execLd_L_L (s : State) : Host.Outcome State Fault Refusal := done 0x6D false (ldRegReg .l .l s)

/-- R152: `LD L,(HL)`. -/
def execLd_L_mHL (s : State) : Host.Outcome State Fault Refusal := done 0x6E false (ldRegFrom .l s.hl s)

/-- R150: `LD L,A`. -/
def execLd_L_A (s : State) : Host.Outcome State Fault Refusal := done 0x6F false (ldRegReg .l .a s)

/-- R153: `LD (HL),B`. -/
def execLd_mHL_B (s : State) : Host.Outcome State Fault Refusal := done 0x70 false (ldTo s.hl (s.get8 .b) s)

/-- R153: `LD (HL),C`. -/
def execLd_mHL_C (s : State) : Host.Outcome State Fault Refusal := done 0x71 false (ldTo s.hl (s.get8 .c) s)

/-- R153: `LD (HL),D`. -/
def execLd_mHL_D (s : State) : Host.Outcome State Fault Refusal := done 0x72 false (ldTo s.hl (s.get8 .d) s)

/-- R153: `LD (HL),E`. -/
def execLd_mHL_E (s : State) : Host.Outcome State Fault Refusal := done 0x73 false (ldTo s.hl (s.get8 .e) s)

/-- R153: `LD (HL),H`. -/
def execLd_mHL_H (s : State) : Host.Outcome State Fault Refusal := done 0x74 false (ldTo s.hl (s.get8 .h) s)

/-- R153: `LD (HL),L`. -/
def execLd_mHL_L (s : State) : Host.Outcome State Fault Refusal := done 0x75 false (ldTo s.hl (s.get8 .l) s)

/-- R153: `LD (HL),A`. -/
def execLd_mHL_A (s : State) : Host.Outcome State Fault Refusal := done 0x77 false (ldTo s.hl (s.get8 .a) s)

/-- R150: `LD A,B`. -/
def execLd_A_B (s : State) : Host.Outcome State Fault Refusal := done 0x78 false (ldRegReg .a .b s)

/-- R150: `LD A,C`. -/
def execLd_A_C (s : State) : Host.Outcome State Fault Refusal := done 0x79 false (ldRegReg .a .c s)

/-- R150: `LD A,D`. -/
def execLd_A_D (s : State) : Host.Outcome State Fault Refusal := done 0x7A false (ldRegReg .a .d s)

/-- R150: `LD A,E`. -/
def execLd_A_E (s : State) : Host.Outcome State Fault Refusal := done 0x7B false (ldRegReg .a .e s)

/-- R150: `LD A,H`. -/
def execLd_A_H (s : State) : Host.Outcome State Fault Refusal := done 0x7C false (ldRegReg .a .h s)

/-- R150: `LD A,L`. -/
def execLd_A_L (s : State) : Host.Outcome State Fault Refusal := done 0x7D false (ldRegReg .a .l s)

/-- R152: `LD A,(HL)`. -/
def execLd_A_mHL (s : State) : Host.Outcome State Fault Refusal := done 0x7E false (ldRegFrom .a s.hl s)

/-- R150: `LD A,A`. -/
def execLd_A_A (s : State) : Host.Outcome State Fault Refusal := done 0x7F false (ldRegReg .a .a s)

/-- R162: `LDH (n),A`. -/
def execLdh_mn_A (n : Byte) (s : State) : Host.Outcome State Fault Refusal := done 0xE0 false (ldTo (highPage n) s.regs.a s)

/-- R164: `LDH (C),A`. -/
def execLdh_mC_A (s : State) : Host.Outcome State Fault Refusal := done 0xE2 false (ldTo (highPage s.regs.c) s.regs.a s)

/-- R160: `LD (nn),A`. -/
def execLd_mnn_A (nn : Addr) (s : State) : Host.Outcome State Fault Refusal := done 0xEA false (ldTo nn s.regs.a s)

/-- R161: `LDH A,(n)`. -/
def execLdh_A_mn (n : Byte) (s : State) : Host.Outcome State Fault Refusal := done 0xF0 false (ldRegFrom .a (highPage n) s)

/-- R163: `LDH A,(C)`. -/
def execLdh_A_mC (s : State) : Host.Outcome State Fault Refusal := done 0xF2 false (ldRegFrom .a (highPage s.regs.c) s)

/-- R159: `LD A,(nn)`. -/
def execLd_A_mnn (nn : Addr) (s : State) : Host.Outcome State Fault Refusal := done 0xFA false (ldRegFrom .a nn s)

end Sys2Proof.Machine
end

