-- ==== Sys2Proof/Machine/Rotate.lean ====
section
/-! DEFINITION. Rotates and shifts (44_rotate_shift_bit.md R250 to R262, R266 to R273): the read-modify-write shapes of Alu8.lean over
`rotateF` and, for the four accumulator rotates, `rotateAccF`. -/

namespace Sys2Proof.Machine

/-- R250: `RLCA`. -/
def execRlca (s : State) : Host.Outcome State Fault Refusal := done 0x07 false (updateReg (rotateAccF .rlc) .a s)

/-- R252: `RRCA`. -/
def execRrca (s : State) : Host.Outcome State Fault Refusal := done 0x0F false (updateReg (rotateAccF .rrc) .a s)

/-- R251: `RLA`. -/
def execRla (s : State) : Host.Outcome State Fault Refusal := done 0x17 false (updateReg (rotateAccF .rl) .a s)

/-- R253: `RRA`. -/
def execRra (s : State) : Host.Outcome State Fault Refusal := done 0x1F false (updateReg (rotateAccF .rr) .a s)

/-- R255: `RLC B`. -/
def execRlc_B (s : State) : Host.Outcome State Fault Refusal := done 0xCB00 false (updateReg (rotateF .rlc) .b s)

/-- R255: `RLC C`. -/
def execRlc_C (s : State) : Host.Outcome State Fault Refusal := done 0xCB01 false (updateReg (rotateF .rlc) .c s)

/-- R255: `RLC D`. -/
def execRlc_D (s : State) : Host.Outcome State Fault Refusal := done 0xCB02 false (updateReg (rotateF .rlc) .d s)

/-- R255: `RLC E`. -/
def execRlc_E (s : State) : Host.Outcome State Fault Refusal := done 0xCB03 false (updateReg (rotateF .rlc) .e s)

/-- R255: `RLC H`. -/
def execRlc_H (s : State) : Host.Outcome State Fault Refusal := done 0xCB04 false (updateReg (rotateF .rlc) .h s)

/-- R255: `RLC L`. -/
def execRlc_L (s : State) : Host.Outcome State Fault Refusal := done 0xCB05 false (updateReg (rotateF .rlc) .l s)

/-- R266: `RLC (HL)`. -/
def execRlc_mHL (s : State) : Host.Outcome State Fault Refusal := done 0xCB06 false (updateMem (rotateF .rlc) s)

/-- R255: `RLC A`. -/
def execRlc_A (s : State) : Host.Outcome State Fault Refusal := done 0xCB07 false (updateReg (rotateF .rlc) .a s)

/-- R256: `RRC B`. -/
def execRrc_B (s : State) : Host.Outcome State Fault Refusal := done 0xCB08 false (updateReg (rotateF .rrc) .b s)

/-- R256: `RRC C`. -/
def execRrc_C (s : State) : Host.Outcome State Fault Refusal := done 0xCB09 false (updateReg (rotateF .rrc) .c s)

/-- R256: `RRC D`. -/
def execRrc_D (s : State) : Host.Outcome State Fault Refusal := done 0xCB0A false (updateReg (rotateF .rrc) .d s)

/-- R256: `RRC E`. -/
def execRrc_E (s : State) : Host.Outcome State Fault Refusal := done 0xCB0B false (updateReg (rotateF .rrc) .e s)

/-- R256: `RRC H`. -/
def execRrc_H (s : State) : Host.Outcome State Fault Refusal := done 0xCB0C false (updateReg (rotateF .rrc) .h s)

/-- R256: `RRC L`. -/
def execRrc_L (s : State) : Host.Outcome State Fault Refusal := done 0xCB0D false (updateReg (rotateF .rrc) .l s)

/-- R267: `RRC (HL)`. -/
def execRrc_mHL (s : State) : Host.Outcome State Fault Refusal := done 0xCB0E false (updateMem (rotateF .rrc) s)

/-- R256: `RRC A`. -/
def execRrc_A (s : State) : Host.Outcome State Fault Refusal := done 0xCB0F false (updateReg (rotateF .rrc) .a s)

/-- R257: `RL B`. -/
def execRl_B (s : State) : Host.Outcome State Fault Refusal := done 0xCB10 false (updateReg (rotateF .rl) .b s)

/-- R257: `RL C`. -/
def execRl_C (s : State) : Host.Outcome State Fault Refusal := done 0xCB11 false (updateReg (rotateF .rl) .c s)

/-- R257: `RL D`. -/
def execRl_D (s : State) : Host.Outcome State Fault Refusal := done 0xCB12 false (updateReg (rotateF .rl) .d s)

/-- R257: `RL E`. -/
def execRl_E (s : State) : Host.Outcome State Fault Refusal := done 0xCB13 false (updateReg (rotateF .rl) .e s)

/-- R257: `RL H`. -/
def execRl_H (s : State) : Host.Outcome State Fault Refusal := done 0xCB14 false (updateReg (rotateF .rl) .h s)

/-- R257: `RL L`. -/
def execRl_L (s : State) : Host.Outcome State Fault Refusal := done 0xCB15 false (updateReg (rotateF .rl) .l s)

/-- R268: `RL (HL)`. -/
def execRl_mHL (s : State) : Host.Outcome State Fault Refusal := done 0xCB16 false (updateMem (rotateF .rl) s)

/-- R257: `RL A`. -/
def execRl_A (s : State) : Host.Outcome State Fault Refusal := done 0xCB17 false (updateReg (rotateF .rl) .a s)

/-- R258: `RR B`. -/
def execRr_B (s : State) : Host.Outcome State Fault Refusal := done 0xCB18 false (updateReg (rotateF .rr) .b s)

/-- R258: `RR C`. -/
def execRr_C (s : State) : Host.Outcome State Fault Refusal := done 0xCB19 false (updateReg (rotateF .rr) .c s)

/-- R258: `RR D`. -/
def execRr_D (s : State) : Host.Outcome State Fault Refusal := done 0xCB1A false (updateReg (rotateF .rr) .d s)

/-- R258: `RR E`. -/
def execRr_E (s : State) : Host.Outcome State Fault Refusal := done 0xCB1B false (updateReg (rotateF .rr) .e s)

/-- R258: `RR H`. -/
def execRr_H (s : State) : Host.Outcome State Fault Refusal := done 0xCB1C false (updateReg (rotateF .rr) .h s)

/-- R258: `RR L`. -/
def execRr_L (s : State) : Host.Outcome State Fault Refusal := done 0xCB1D false (updateReg (rotateF .rr) .l s)

/-- R269: `RR (HL)`. -/
def execRr_mHL (s : State) : Host.Outcome State Fault Refusal := done 0xCB1E false (updateMem (rotateF .rr) s)

/-- R258: `RR A`. -/
def execRr_A (s : State) : Host.Outcome State Fault Refusal := done 0xCB1F false (updateReg (rotateF .rr) .a s)

/-- R259: `SLA B`. -/
def execSla_B (s : State) : Host.Outcome State Fault Refusal := done 0xCB20 false (updateReg (rotateF .sla) .b s)

/-- R259: `SLA C`. -/
def execSla_C (s : State) : Host.Outcome State Fault Refusal := done 0xCB21 false (updateReg (rotateF .sla) .c s)

/-- R259: `SLA D`. -/
def execSla_D (s : State) : Host.Outcome State Fault Refusal := done 0xCB22 false (updateReg (rotateF .sla) .d s)

/-- R259: `SLA E`. -/
def execSla_E (s : State) : Host.Outcome State Fault Refusal := done 0xCB23 false (updateReg (rotateF .sla) .e s)

/-- R259: `SLA H`. -/
def execSla_H (s : State) : Host.Outcome State Fault Refusal := done 0xCB24 false (updateReg (rotateF .sla) .h s)

/-- R259: `SLA L`. -/
def execSla_L (s : State) : Host.Outcome State Fault Refusal := done 0xCB25 false (updateReg (rotateF .sla) .l s)

/-- R270: `SLA (HL)`. -/
def execSla_mHL (s : State) : Host.Outcome State Fault Refusal := done 0xCB26 false (updateMem (rotateF .sla) s)

/-- R259: `SLA A`. -/
def execSla_A (s : State) : Host.Outcome State Fault Refusal := done 0xCB27 false (updateReg (rotateF .sla) .a s)

/-- R260: `SRA B`. -/
def execSra_B (s : State) : Host.Outcome State Fault Refusal := done 0xCB28 false (updateReg (rotateF .sra) .b s)

/-- R260: `SRA C`. -/
def execSra_C (s : State) : Host.Outcome State Fault Refusal := done 0xCB29 false (updateReg (rotateF .sra) .c s)

/-- R260: `SRA D`. -/
def execSra_D (s : State) : Host.Outcome State Fault Refusal := done 0xCB2A false (updateReg (rotateF .sra) .d s)

/-- R260: `SRA E`. -/
def execSra_E (s : State) : Host.Outcome State Fault Refusal := done 0xCB2B false (updateReg (rotateF .sra) .e s)

/-- R260: `SRA H`. -/
def execSra_H (s : State) : Host.Outcome State Fault Refusal := done 0xCB2C false (updateReg (rotateF .sra) .h s)

/-- R260: `SRA L`. -/
def execSra_L (s : State) : Host.Outcome State Fault Refusal := done 0xCB2D false (updateReg (rotateF .sra) .l s)

/-- R271: `SRA (HL)`. -/
def execSra_mHL (s : State) : Host.Outcome State Fault Refusal := done 0xCB2E false (updateMem (rotateF .sra) s)

/-- R260: `SRA A`. -/
def execSra_A (s : State) : Host.Outcome State Fault Refusal := done 0xCB2F false (updateReg (rotateF .sra) .a s)

/-- R261: `SWAP B`. -/
def execSwap_B (s : State) : Host.Outcome State Fault Refusal := done 0xCB30 false (updateReg (rotateF .swap) .b s)

/-- R261: `SWAP C`. -/
def execSwap_C (s : State) : Host.Outcome State Fault Refusal := done 0xCB31 false (updateReg (rotateF .swap) .c s)

/-- R261: `SWAP D`. -/
def execSwap_D (s : State) : Host.Outcome State Fault Refusal := done 0xCB32 false (updateReg (rotateF .swap) .d s)

/-- R261: `SWAP E`. -/
def execSwap_E (s : State) : Host.Outcome State Fault Refusal := done 0xCB33 false (updateReg (rotateF .swap) .e s)

/-- R261: `SWAP H`. -/
def execSwap_H (s : State) : Host.Outcome State Fault Refusal := done 0xCB34 false (updateReg (rotateF .swap) .h s)

/-- R261: `SWAP L`. -/
def execSwap_L (s : State) : Host.Outcome State Fault Refusal := done 0xCB35 false (updateReg (rotateF .swap) .l s)

/-- R272: `SWAP (HL)`. -/
def execSwap_mHL (s : State) : Host.Outcome State Fault Refusal := done 0xCB36 false (updateMem (rotateF .swap) s)

/-- R261: `SWAP A`. -/
def execSwap_A (s : State) : Host.Outcome State Fault Refusal := done 0xCB37 false (updateReg (rotateF .swap) .a s)

/-- R262: `SRL B`. -/
def execSrl_B (s : State) : Host.Outcome State Fault Refusal := done 0xCB38 false (updateReg (rotateF .srl) .b s)

/-- R262: `SRL C`. -/
def execSrl_C (s : State) : Host.Outcome State Fault Refusal := done 0xCB39 false (updateReg (rotateF .srl) .c s)

/-- R262: `SRL D`. -/
def execSrl_D (s : State) : Host.Outcome State Fault Refusal := done 0xCB3A false (updateReg (rotateF .srl) .d s)

/-- R262: `SRL E`. -/
def execSrl_E (s : State) : Host.Outcome State Fault Refusal := done 0xCB3B false (updateReg (rotateF .srl) .e s)

/-- R262: `SRL H`. -/
def execSrl_H (s : State) : Host.Outcome State Fault Refusal := done 0xCB3C false (updateReg (rotateF .srl) .h s)

/-- R262: `SRL L`. -/
def execSrl_L (s : State) : Host.Outcome State Fault Refusal := done 0xCB3D false (updateReg (rotateF .srl) .l s)

/-- R273: `SRL (HL)`. -/
def execSrl_mHL (s : State) : Host.Outcome State Fault Refusal := done 0xCB3E false (updateMem (rotateF .srl) s)

/-- R262: `SRL A`. -/
def execSrl_A (s : State) : Host.Outcome State Fault Refusal := done 0xCB3F false (updateReg (rotateF .srl) .a s)

end Sys2Proof.Machine
end

