-- ==== Sys2Proof/Machine/System.lean ====
section
/-! DEFINITION. The system instructions, the undefined opcodes and the row of the prefix byte (46_system.md R300 to R306). -/

namespace Sys2Proof.Machine

/-- `halted <- true` (R301). -/
def enterHalt (s : State) : State := { s with halted := true }

/-- `STOP`: its second byte is fetched and ignored; then as `HALT` (R302). -/
def stopOp (_n : Byte) (s : State) : State := { s with halted := true }

/-- `IME <- false; ime_pending <- false` (R303). -/
def disableInterrupts (s : State) : State := { s with ime := false, imePending := false }

/-- `ime_pending <- true` (R304). -/
def enableInterrupts (s : State) : State := { s with imePending := true }

/-- An opcode with no instruction: an anomaly record and an outcome that name the opcode and the address it was fetched from; no other
effect (R306). -/
def undefinedOp (op : Byte) (s : State) : State :=
  let a := s.regs.pc - 1
  { emit (.unimplementedOpcode op a) s with outcome := .unimplemented op a }

/-- The entry of the 0xCB table that a second byte selects, by its fields (30_encoding.md R132; 46_system.md R305). -/
def extendedOp (op2 : Byte) (s : State) : State :=
  let y := opY op2
  let b := bitOfCode y
  match opX op2, reg8OfCode (opZ op2) with
  | 0, some r => updateReg (rotateF (rotOfCode y)) r s
  | 0, none => updateMem (rotateF (rotOfCode y)) s
  | 1, some r => testBit b (s.get8 r) s
  | 1, none => testBitMem b s
  | 2, some r => mapReg (clearBit · b.val) r s
  | 2, none => mapMem (clearBit · b.val) s
  | _, some r => mapReg (setBit · b.val) r s
  | _, none => mapMem (setBit · b.val) s

/-- R300: `NOP`. -/
def execNop (s : State) : Host.Outcome State Fault Refusal := done 0x00 false s

/-- R302: `STOP`. -/
def execStop (n : Byte) (s : State) : Host.Outcome State Fault Refusal := done 0x10 false (stopOp n s)

/-- R301: `HALT`. -/
def execHalt (s : State) : Host.Outcome State Fault Refusal := done 0x76 false (enterHalt s)

/-- R305: `PREFIX CB`. -/
def execPrefix_CB (op2 : Byte) (s : State) : Host.Outcome State Fault Refusal := done (0xCB00 + op2.toNat) false (extendedOp op2 s)

/-- R306: `UNDEFINED D3`. -/
def execUndefined_D3 (s : State) : Host.Outcome State Fault Refusal := done 0xD3 false (undefinedOp 0xD3 s)

/-- R306: `UNDEFINED DB`. -/
def execUndefined_DB (s : State) : Host.Outcome State Fault Refusal := done 0xDB false (undefinedOp 0xDB s)

/-- R306: `UNDEFINED DD`. -/
def execUndefined_DD (s : State) : Host.Outcome State Fault Refusal := done 0xDD false (undefinedOp 0xDD s)

/-- R306: `UNDEFINED E3`. -/
def execUndefined_E3 (s : State) : Host.Outcome State Fault Refusal := done 0xE3 false (undefinedOp 0xE3 s)

/-- R306: `UNDEFINED E4`. -/
def execUndefined_E4 (s : State) : Host.Outcome State Fault Refusal := done 0xE4 false (undefinedOp 0xE4 s)

/-- R306: `UNDEFINED EB`. -/
def execUndefined_EB (s : State) : Host.Outcome State Fault Refusal := done 0xEB false (undefinedOp 0xEB s)

/-- R306: `UNDEFINED EC`. -/
def execUndefined_EC (s : State) : Host.Outcome State Fault Refusal := done 0xEC false (undefinedOp 0xEC s)

/-- R306: `UNDEFINED ED`. -/
def execUndefined_ED (s : State) : Host.Outcome State Fault Refusal := done 0xED false (undefinedOp 0xED s)

/-- R303: `DI`. -/
def execDi (s : State) : Host.Outcome State Fault Refusal := done 0xF3 false (disableInterrupts s)

/-- R306: `UNDEFINED F4`. -/
def execUndefined_F4 (s : State) : Host.Outcome State Fault Refusal := done 0xF4 false (undefinedOp 0xF4 s)

/-- R304: `EI`. -/
def execEi (s : State) : Host.Outcome State Fault Refusal := done 0xFB false (enableInterrupts s)

/-- R306: `UNDEFINED FC`. -/
def execUndefined_FC (s : State) : Host.Outcome State Fault Refusal := done 0xFC false (undefinedOp 0xFC s)

/-- R306: `UNDEFINED FD`. -/
def execUndefined_FD (s : State) : Host.Outcome State Fault Refusal := done 0xFD false (undefinedOp 0xFD s)

end Sys2Proof.Machine
end

