-- ==== Sys2Proof/Machine/Fetch.lean ====
section
/-! DEFINITION. Fetching and decoding the bytes at `PC` (30_encoding.md R120, R122), the start of a step, and placing an instruction where
the next step fetches it (the load of a program from outside the machine). -/

namespace Sys2Proof.Machine

/-- Fetch an instruction (R122): the opcode, then the operand bytes of its format in ascending address order, each by `fetch8`; the
instruction, and the state with `PC` past it. No byte beyond the instruction's own is read. -/
def fetchInstr (s : State) : Instr × State :=
  let op := fetch8 s
  match operandCount op.1 with
  | 0 => (decodeBytes op.1 0 0, op.2)
  | 1 =>
    let b1 := fetch8 op.2
    (decodeBytes op.1 b1.1 0, b1.2)
  | _ =>
    let b1 := fetch8 op.2
    let b2 := fetch8 b1.2
    (decodeBytes op.1 b1.1 b2.1, b2.2)

/-- The start of a step: the requests asserted since the last step (60_exceptions.md R331) and `outcome <- Handled` (R320). -/
def beginStep (s : State) : State := { takeRequests s with outcome := .handled }

/-- Leaving the halted state (R320, phase 1). -/
def wake (s : State) : State := { s with halted := false }

/-! ### Placing an instruction -/

/-- Whether an address shows storage that a program can be loaded into. -/
def storable (a : Addr) : Bool :=
  match regionOf a with
  | .rom => true
  | .vram => false
  | .xram => false
  | .wram => true
  | .mirror => true
  | .oam => true
  | .unusable => false
  | .io => false
  | .hram => true
  | .ie => false

/-- Put a byte into the storage that an address shows: the cartridge image, work RAM, OAM or high RAM. -/
def placeByte (a : Addr) (v : Byte) (s : State) : State :=
  match regionOf a with
  | .rom => { s with cfg := { s.cfg with rom := romSetByte s.cfg.rom (cartRomIndex s a) v } }
  | .vram => s
  | .xram => s
  | .wram => { s with wram := Memory.set s.wram (wramIndex a) v }
  | .mirror => { s with wram := Memory.set s.wram (wramIndex (unmirror a)) v }
  | .oam => { s with oam := Memory.set s.oam (a.toNat - 0xFE00) v }
  | .unusable => s
  | .io => s
  | .hram => { s with hram := Memory.set s.hram (a.toNat - 0xFF80) v }
  | .ie => s

/-- Put bytes at consecutive addresses. -/
def placeBytes : Addr → List Byte → State → State
  | _, [], s => s
  | a, b :: t, s => placeBytes (a + 1) t (placeByte a b s)

/-- Where an instruction can be placed for the next step: at `PC` when the three bytes there are storage, else at the start of work RAM
(notes/assumptions/8.md). -/
def placeAddr (s : State) : Addr :=
  let pc := s.regs.pc
  if storable pc && storable (pc + 1) && storable (pc + 2) then pc else 0xC000

/-- The state whose very next step fetches and runs the given bytes: they are placed at the fetch address, and nothing keeps the step
from fetching (not halted, no request to arrive, no interrupt to be taken). -/
def placeAtFetch (bytes : List Byte) (s : State) : State :=
  let a := placeAddr s
  let s1 := placeBytes a bytes s
  { s1.setPC a with halted := false, irqLines := [], ime := s.ime && decide (s.pending = 0) }

end Sys2Proof.Machine
end

