-- ==== Sys2Proof/Machine/Step.lean ====
section
/-! DEFINITION. One step of the block (60_exceptions.md R320). -/

namespace Sys2Proof.Machine

/-- "One step is exactly one of: (i) an idle step while halted, (ii) the service of one interrupt, (iii) the execution of one
instruction", in the phases of R320; `pend` is computed once, at the start. -/
def stepPhases (s : State) : Host.Outcome State Fault Refusal :=
  let s0 := beginStep s
  let pend := s0.pending
  if s0.halted = true ∧ pend = 0 then .next (idleStep s0)
  else
    let s1 := wake s0
    if s1.ime = true ∧ pend ≠ 0 then .next (interruptEntry pend s1)
    else
      let f := fetchInstr (promoteIme s1)
      exec f.1 f.2

/-- `Step()` (R320), its count summed into the ghost counter (70_reset_and_hazards.md R375). -/
def step (s : State) : Host.Outcome State Fault Refusal := tally (stepPhases s)

/-- The state with an instruction, given as opcode_table.json numbers it, placed where the next step fetches (notes/assumptions/1.md, 7.md,
8.md). -/
def State.withFetchWord (s : State) (nbits w : Nat) : State := placeAtFetch (tableBytes nbits w) s

end Sys2Proof.Machine
end

