-- ==== Sys2Proof/Machine/HostPort.lean ====
section
/-! DEFINITION. What the host does to the machine between steps (70_reset_and_hazards.md R360, R363, R365). -/

namespace Sys2Proof.Machine

/-- The reset line on a running machine (R360, R363; 10_state.md R36): every register and the mapper state return to their reset values;
"no reset of RAM contents on CPU reset (only registers reset)"; "Reset emits no anomaly and performs no bus access". -/
def State.onReset (s : State) : State :=
  { s with
    regs := RegFile.reset
    ime := false, halted := false, imePending := false
    ie := 0, ifr := 0, dma := 0
    mapper := MapperState.initial s.cfg.mapper }

/-- The number of external RAM cells (20_memory.md R93, R102). -/
def xramCells (cfg : Config) : Nat := if cfg.mapper = .mbc2 then mbc2Cells else cfg.xramSize

/-- `xram_dump()`: the current external-RAM bytes, "raw external-RAM bytes, no header"; MBC2's are half-bytes (R365, 20_memory.md R102). -/
def State.xramDump (s : State) : List Byte :=
  (List.range (xramCells s.cfg)).map (fun i =>
    let v := ramByte .xram s.xram i
    if halfByteRam s.mapper then v &&& 0x0F else v)

end Sys2Proof.Machine
end

