-- ==== Sys2Proof/Safety.lean ====
section
/-! DEFINITION. The words claims are stated in: which states are well formed, which runs are safe, which storage cell an address
designates, which instructions store, write flags, jump or move `SP`, and the formulas of the spec in plain arithmetic. -/

namespace Sys2Proof.Machine

/-- The mapper state belongs to the family the configuration selects (10_state.md R35, 20_memory.md R96). -/
def mapperAgrees : MapperKind → MapperState → Bool
  | .unbanked, .unbanked => true
  | .mbc1, .mbc1 _ => true
  | .mbc2, .mbc2 _ => true
  | .mbc3, .mbc3 _ => true
  | .mbc4, .unbanked => true
  | .mbc5, .mbc5 _ => true
  | .unknown, .unbanked => true
  | _, _ => false

/-- The bank registers that cannot hold 0 do not (20_memory.md R100, R102, R104). -/
def banksLegal : MapperState → Bool
  | .unbanked => true
  | .mbc1 r => decide (r.bank1 ≠ 0)
  | .mbc2 r => decide (r.romBank ≠ 0)
  | .mbc3 r => decide (r.romBank ≠ 0)
  | .mbc5 _ => true

/-- Well-formed states: `F` has a zero low nibble (10_state.md R21), every memory array is in its canonical form within its size (R34),
the configuration is legal (00_scope.md R9, 20_memory.md R89), the mapper state is that of the configured family, no bank register
holds a value it cannot hold, and MBC2 cells are half-bytes (R102). -/
structure Inv (s : State) : Prop where
  flags  : lowNibble s.regs.f = 0
  wram   : Memory.wfBelow 0x2000 s.wram = true
  oam    : Memory.wfBelow 160 s.oam = true
  hram   : Memory.wfBelow 127 s.hram = true
  xram   : Memory.wfBelow (xramCells s.cfg) s.xram = true
  half   : halfByteRam s.mapper = true → ∀ c ∈ s.xram, c.2 &&& 0xF0 = 0
  config : s.cfg.wf = true
  mapper : mapperAgrees s.cfg.mapper s.mapper = true
  banks  : banksLegal s.mapper = true

/-- A run is free of anomalies so far: the sticky condition that 60_exceptions.md R345 and 93_implementation_defined.md U1, U2 recommend
claims to carry. -/
def State.anomalyFree (s : State) : Prop := s.anomalies = []

/-- A storage cell of the block (20_memory.md R86: reads and writes meet in cells, "through any alias"). -/
inductive Cell where
  | wram (i : Nat)
  | oam (i : Nat)
  | hram (i : Nat)
  | xram (i : Nat)
  | ifr
  | dma
  | ie
deriving DecidableEq, Repr

/-- The writable cell that an address designates in a state, if it designates one: none for the ROM window, the peripheral ports, the
unusable range and external RAM that is absent or disabled (R61 to R73). -/
def cellOf (s : State) (a : Addr) : Option Cell :=
  match regionOf a with
  | .rom => none
  | .vram => none
  | .xram => (cartRamIndex s a).map .xram
  | .wram => some (.wram (wramIndex a))
  | .mirror => some (.wram (wramIndex (unmirror a)))
  | .oam => some (.oam (a.toNat - 0xFE00))
  | .unusable => none
  | .io => if a = s.cfg.ifAddr then some .ifr else if a = s.cfg.dmaAddr then some .dma else none
  | .hram => some (.hram (a.toNat - 0xFF80))
  | .ie => some .ie

/-- The byte a read of an address answers, without the read's side effects. -/
def peek (s : State) (a : Addr) : Byte := (read8 a s).1

/-- An address whose reads an attached peripheral answers: not storage of the block (R64, R71). -/
def isPort (s : State) (a : Addr) : Bool :=
  match regionOf a with
  | .vram => s.cfg.vramAttached
  | .io => s.cfg.ioAttached && decide (a ≠ s.cfg.ifAddr) && decide (a ≠ s.cfg.dmaAddr)
  | _ => false

/-- Whether a store to address `A` may change what address `a` reads as: it is the same address or an alias of the same cell (R86), or the
store starts the DMA copy and `a` is in OAM (R80), or the store is a mapper control write and `a` is in a banked window (R62). -/
def mayChange (s : State) (A a : Addr) : Prop :=
  a = A ∨ (cellOf s A ≠ none ∧ cellOf s a = cellOf s A) ∨ (triggersDma A s = true ∧ regionOf a = .oam) ∨
  (regionOf A = .rom ∧ (regionOf a = .rom ∨ regionOf a = .xram))

/-! ### Instructions by what they do -/

/-- `StoresAt i s A`: instruction `i`, its bytes fetched, stores a byte at address `A` in state `s`. -/
inductive StoresAt : Instr → State → Addr → Prop where
  | ldMemReg (r : Reg8) (s : State) : StoresAt (.ldMemReg r) s s.hl
  | ldMemImm (n : Byte) (s : State) : StoresAt (.ld_mHL_n n) s s.hl
  | ldBC (s : State) : StoresAt .ld_mBC_A s s.bc
  | ldDE (s : State) : StoresAt .ld_mDE_A s s.de
  | ldAbs (nn : Addr) (s : State) : StoresAt (.ld_mnn_A nn) s nn
  | ldhImm (n : Byte) (s : State) : StoresAt (.ldh_mn_A n) s (mk16 0xFF n)
  | ldhC (s : State) : StoresAt .ldh_mC_A s (mk16 0xFF s.regs.c)
  | ldInc (s : State) : StoresAt .ld_mHLi_A s s.hl
  | ldDec (s : State) : StoresAt .ld_mHLd_A s s.hl
  | spLow (nn : Addr) (s : State) : StoresAt (.ld_mnn_SP nn) s nn
  | spHigh (nn : Addr) (s : State) : StoresAt (.ld_mnn_SP nn) s (nn + 1)
  | pushHigh (p : RP2) (s : State) : StoresAt (.push p) s (s.regs.sp - 1)
  | pushLow (p : RP2) (s : State) : StoresAt (.push p) s (s.regs.sp - 2)
  | inc (s : State) : StoresAt .inc_mHL s s.hl
  | dec (s : State) : StoresAt .dec_mHL s s.hl
  | rot (op : RotOp) (s : State) : StoresAt (.rotMem op) s s.hl
  | res (b : Fin 8) (s : State) : StoresAt (.resMem b) s s.hl
  | set (b : Fin 8) (s : State) : StoresAt (.setMem b) s s.hl
  | callHigh (nn : Addr) (s : State) : StoresAt (.call_nn nn) s (s.regs.sp - 1)
  | callLow (nn : Addr) (s : State) : StoresAt (.call_nn nn) s (s.regs.sp - 2)
  | callCondHigh (cc : Cond) (nn : Addr) (s : State) (h : s.cond cc = true) : StoresAt (.callCond cc nn) s (s.regs.sp - 1)
  | callCondLow (cc : Cond) (nn : Addr) (s : State) (h : s.cond cc = true) : StoresAt (.callCond cc nn) s (s.regs.sp - 2)
  | rstHigh (y : Fin 8) (s : State) : StoresAt (.rst y) s (s.regs.sp - 1)
  | rstLow (y : Fin 8) (s : State) : StoresAt (.rst y) s (s.regs.sp - 2)
  | extended (op2 : Byte) (s : State) (A : Addr) (h : StoresAt (decodeExtended op2) s A) : StoresAt (.prefix_CB op2) s A

/-- The eleven opcodes with no instruction (30_encoding.md R133, 46_system.md R306). -/
inductive UndefinedOpcode : Byte → Instr → Prop where
  | xD3 : UndefinedOpcode 0xD3 .undefined_D3
  | xDB : UndefinedOpcode 0xDB .undefined_DB
  | xDD : UndefinedOpcode 0xDD .undefined_DD
  | xE3 : UndefinedOpcode 0xE3 .undefined_E3
  | xE4 : UndefinedOpcode 0xE4 .undefined_E4
  | xEB : UndefinedOpcode 0xEB .undefined_EB
  | xEC : UndefinedOpcode 0xEC .undefined_EC
  | xED : UndefinedOpcode 0xED .undefined_ED
  | xF4 : UndefinedOpcode 0xF4 .undefined_F4
  | xFC : UndefinedOpcode 0xFC .undefined_FC
  | xFD : UndefinedOpcode 0xFD .undefined_FD

/-- The instructions with `-` in all four flag columns of 10_state.md R26, and those outside its table. -/
inductive KeepsFlags : Instr → Prop where
  | ldRegReg (rd rs : Reg8) : KeepsFlags (.ldRegReg rd rs)
  | ldRegImm (r : Reg8) (n : Byte) : KeepsFlags (.ldRegImm r n)
  | ldRegMem (r : Reg8) : KeepsFlags (.ldRegMem r)
  | ldMemReg (r : Reg8) : KeepsFlags (.ldMemReg r)
  | ld_mHL_n (n : Byte) : KeepsFlags (.ld_mHL_n n)
  | ld_A_mBC : KeepsFlags .ld_A_mBC
  | ld_A_mDE : KeepsFlags .ld_A_mDE
  | ld_mBC_A : KeepsFlags .ld_mBC_A
  | ld_mDE_A : KeepsFlags .ld_mDE_A
  | ld_A_mnn (nn : Addr) : KeepsFlags (.ld_A_mnn nn)
  | ld_mnn_A (nn : Addr) : KeepsFlags (.ld_mnn_A nn)
  | ldh_A_mn (n : Byte) : KeepsFlags (.ldh_A_mn n)
  | ldh_mn_A (n : Byte) : KeepsFlags (.ldh_mn_A n)
  | ldh_A_mC : KeepsFlags .ldh_A_mC
  | ldh_mC_A : KeepsFlags .ldh_mC_A
  | ld_A_mHLi : KeepsFlags .ld_A_mHLi
  | ld_A_mHLd : KeepsFlags .ld_A_mHLd
  | ld_mHLi_A : KeepsFlags .ld_mHLi_A
  | ld_mHLd_A : KeepsFlags .ld_mHLd_A
  | ldPairImm (p : RP) (nn : Addr) : KeepsFlags (.ldPairImm p nn)
  | ld_mnn_SP (nn : Addr) : KeepsFlags (.ld_mnn_SP nn)
  | ld_SP_HL : KeepsFlags .ld_SP_HL
  | push (p : RP2) : KeepsFlags (.push p)
  | pop (p : RP2) (h : p ≠ .af) : KeepsFlags (.pop p)
  | incPair (p : RP) : KeepsFlags (.incPair p)
  | decPair (p : RP) : KeepsFlags (.decPair p)
  | resReg (b : Fin 8) (r : Reg8) : KeepsFlags (.resReg b r)
  | resMem (b : Fin 8) : KeepsFlags (.resMem b)
  | setReg (b : Fin 8) (r : Reg8) : KeepsFlags (.setReg b r)
  | setMem (b : Fin 8) : KeepsFlags (.setMem b)
  | jp_nn (nn : Addr) : KeepsFlags (.jp_nn nn)
  | jpCond (cc : Cond) (nn : Addr) : KeepsFlags (.jpCond cc nn)
  | jp_HL : KeepsFlags .jp_HL
  | jr_e (e : Byte) : KeepsFlags (.jr_e e)
  | jrCond (cc : Cond) (e : Byte) : KeepsFlags (.jrCond cc e)
  | call_nn (nn : Addr) : KeepsFlags (.call_nn nn)
  | callCond (cc : Cond) (nn : Addr) : KeepsFlags (.callCond cc nn)
  | ret : KeepsFlags .ret
  | retCond (cc : Cond) : KeepsFlags (.retCond cc)
  | rst (y : Fin 8) : KeepsFlags (.rst y)
  | reti : KeepsFlags .reti
  | nop : KeepsFlags .nop
  | halt : KeepsFlags .halt
  | stop (n : Byte) : KeepsFlags (.stop n)
  | di : KeepsFlags .di
  | ei : KeepsFlags .ei
  | undefined (op : Byte) (i : Instr) (h : UndefinedOpcode op i) : KeepsFlags i

/-- The control-transfer instructions, which may write `PC` other than by fetch (10_state.md R24, 45_control.md). -/
inductive Transfers : Instr → Prop where
  | jp_nn (nn : Addr) : Transfers (.jp_nn nn)
  | jpCond (cc : Cond) (nn : Addr) : Transfers (.jpCond cc nn)
  | jp_HL : Transfers .jp_HL
  | jr_e (e : Byte) : Transfers (.jr_e e)
  | jrCond (cc : Cond) (e : Byte) : Transfers (.jrCond cc e)
  | call_nn (nn : Addr) : Transfers (.call_nn nn)
  | callCond (cc : Cond) (nn : Addr) : Transfers (.callCond cc nn)
  | ret : Transfers .ret
  | retCond (cc : Cond) : Transfers (.retCond cc)
  | rst (y : Fin 8) : Transfers (.rst y)
  | reti : Transfers .reti

/-- The instructions that may write `SP` (10_state.md R25). -/
inductive MovesSP : Instr → Prop where
  | ldSPImm (nn : Addr) : MovesSP (.ldPairImm .sp nn)
  | ld_SP_HL : MovesSP .ld_SP_HL
  | add_SP_e (e : Byte) : MovesSP (.add_SP_e e)
  | incSP : MovesSP (.incPair .sp)
  | decSP : MovesSP (.decPair .sp)
  | push (p : RP2) : MovesSP (.push p)
  | pop (p : RP2) : MovesSP (.pop p)
  | call_nn (nn : Addr) : MovesSP (.call_nn nn)
  | callCond (cc : Cond) (nn : Addr) : MovesSP (.callCond cc nn)
  | ret : MovesSP .ret
  | retCond (cc : Cond) : MovesSP (.retCond cc)
  | rst (y : Fin 8) : MovesSP (.rst y)
  | reti : MovesSP .reti

/-! ### Encodings and cycle counts of the statements -/

/-- Operand codes (30_encoding.md R124). -/
def regCode : Reg8 → Nat
  | .b => 0
  | .c => 1
  | .d => 2
  | .e => 3
  | .h => 4
  | .l => 5
  | .a => 7

/-- Table `rp` (R125). -/
def rpCode : RP → Nat
  | .bc => 0
  | .de => 1
  | .hl => 2
  | .sp => 3

/-- Table `rp2` (R125). -/
def rp2Code : RP2 → Nat
  | .bc => 0
  | .de => 1
  | .hl => 2
  | .af => 3

/-- Condition codes (R126). -/
def condCode : Cond → Nat
  | .nz => 0
  | .z => 1
  | .nc => 2
  | .c => 3

/-- ALU selectors (R127). -/
def aluCode : AluOp → Nat
  | .add => 0
  | .adc => 1
  | .sub => 2
  | .sbc => 3
  | .and => 4
  | .xor => 5
  | .or => 6
  | .cp => 7

/-- Rotate and shift selectors (R127). -/
def rotCode : RotOp → Nat
  | .rlc => 0
  | .rrc => 1
  | .rl => 2
  | .rr => 3
  | .sla => 4
  | .sra => 5
  | .swap => 6
  | .srl => 7

/-- An opcode byte written as a number. -/
def opByte (n : Nat) : Byte := BitVec.ofNat 8 n

/-- The key of an instruction in `cfg.cycles`: its opcode byte, or 0xCB00 + its second byte (00_scope.md R9). -/
def opcodeKey (i : Instr) : Nat :=
  match encode i with
  | [] => 0
  | op :: rest => if op = 0xCB then 0xCB00 + (rest.headD 0).toNat else op.toNat

/-- The untaken (or only) cost that `cfg.cycles` gives an instruction whose cost by default is `n` (70_reset_and_hazards.md R375, R376). -/
def untakenCost (cfg : Config) (i : Instr) (n : Nat) : Nat :=
  match cfg.cycleOverrides.find? (fun p => p.1 == opcodeKey i) with
  | some p => p.2.1
  | none => n

/-- The taken cost that `cfg.cycles` gives an instruction whose taken cost by default is `n`. -/
def takenCost (cfg : Config) (i : Instr) (n : Nat) : Nat :=
  match cfg.cycleOverrides.find? (fun p => p.1 == opcodeKey i) with
  | some p => p.2.2
  | none => n

/-! ### The formulas of the spec, in plain arithmetic -/

/-- The sum of R200 with the flags of an addition: the new `A`, the new `F`. -/
def specAdd (a b : Byte) (cin : Nat) : Byte × Byte :=
  let s := a.toNat + b.toNat + cin
  (BitVec.ofNat 8 (s % 256),
    packF (decide (s % 256 = 0)) false (decide (a.toNat % 16 + b.toNat % 16 + cin > 0xF)) (decide (s > 0xFF)))

/-- The difference of R201 with the flags of a subtraction: the new `A`, the new `F`. -/
def specSub (a b : Byte) (cin : Nat) : Byte × Byte :=
  let d := (256 + 256 + a.toNat - b.toNat - cin) % 256
  (BitVec.ofNat 8 d,
    packF (decide (d = 0)) true (decide (a.toNat % 16 < b.toNat % 16 + cin)) (decide (a.toNat < b.toNat + cin)))

/-- A rotate or shift of R255 to R262 on a byte as a number, with the old carry: the result and the carry out. -/
def specRotate (op : RotOp) (v cin : Nat) : Nat × Bool :=
  match op with
  | .rlc => (v * 2 % 256 + v / 128, decide (v / 128 = 1))
  | .rrc => (v / 2 + v % 2 * 128, decide (v % 2 = 1))
  | .rl => (v * 2 % 256 + cin, decide (v / 128 = 1))
  | .rr => (v / 2 + cin * 128, decide (v % 2 = 1))
  | .sla => (v * 2 % 256, decide (v / 128 = 1))
  | .sra => (v / 2 + v / 128 * 128, decide (v % 2 = 1))
  | .swap => (v * 16 % 256 + v / 16, false)
  | .srl => (v / 2, decide (v % 2 = 1))

/-- `DAA` on numbers (R224), statement by statement: the new accumulator and the new carry. -/
def specDaa (a : Nat) (n h c : Bool) : Nat × Bool :=
  if n = false then
    let low := if h = true ∨ a % 16 > 9 then 0x06 else 0
    let high := if c = true ∨ a > 0x99 then 0x60 else 0
    ((a + low + high) % 256, c || decide (a > 0x99))
  else
    let low := if h = true then 0x06 else 0
    let high := if c = true then 0x60 else 0
    ((256 + a - low - high) % 256, c)

end Sys2Proof.Machine
end

