-- ==== Sys2Proof/Certificates/Slice0/Obligations.lean ====
section
/-! DEFINITION. The statements about the model, one definition each. Every statement about an instruction gives its encoding, its whole next
state (whatever is not written in the record update is unchanged) and its cycle count; `cfg.cycles` is a parameter (00_scope.md R9), so a
count is written as the default of the rule, replaced by an override when the configuration has one (`untakenCost`, `takenCost`). -/

open Sys2Proof Sys2Proof.Machine

/-! ### Encoding -/

/-- 30_encoding.md R120 to R133: no bit of an encoding is dropped, for every well-formed instruction and every operand value. -/
def Obligations.DecodeEncode : Prop :=
  ∀ (i : Instr), i.wf = true → ∀ rest : List Byte, decode (encode i ++ rest) = .ok (i, rest)

/-- 30_encoding.md R120, R133: each byte sequence that decodes is the encoding of the well-formed instruction it decodes to, followed by
what was left over. -/
def Obligations.EncodeDecode : Prop :=
  ∀ (bytes rest : List Byte) (i : Instr), decode bytes = .ok (i, rest) → i.wf = true ∧ bytes = encode i ++ rest

/-- 30_encoding.md R120, R138: the first byte tells the length, by the lists of R138; a sequence long enough decodes, a shorter one is
refused by name. -/
def Obligations.LengthFromFirstByte : Prop :=
  ∀ (op : Byte) (rest : List Byte),
    let one : List Byte := [0x06, 0x0E, 0x16, 0x1E, 0x26, 0x2E, 0x36, 0x3E, 0x10, 0xC6, 0xCE, 0xD6, 0xDE, 0xE6, 0xEE, 0xF6, 0xFE, 0xE0, 0xF0,
      0x18, 0x20, 0x28, 0x30, 0x38, 0xE8, 0xF8, 0xCB]
    let two : List Byte := [0x01, 0x11, 0x21, 0x31, 0x08, 0xC2, 0xCA, 0xD2, 0xDA, 0xC3, 0xC4, 0xCC, 0xD4, 0xDC, 0xCD, 0xEA, 0xFA]
    let n := if op ∈ one then 1 else if op ∈ two then 2 else 0
    (n ≤ rest.length → ∃ i, decode (op :: rest) = .ok (i, rest.drop n) ∧ (encode i).length = n + 1) ∧
    (rest.length < n → decode (op :: rest) = .error (.truncated op))

/-- Words written out from the patterns of the instruction rules, one or two a family. -/
def Obligations.SampleWords : Prop :=
  decode [0b01000001#8] = .ok (.ld_B_C, []) ∧
  decode [0b00111110#8, 0x7F] = .ok (.ld_A_n 0x7F, []) ∧
  decode [0b01011110#8] = .ok (.ld_E_mHL, []) ∧
  decode [0b01110111#8] = .ok (.ld_mHL_A, []) ∧
  decode [0b00100001#8, 0x34, 0x12] = .ok (.ld_HL_nn 0x1234, []) ∧
  decode [0b11000101#8] = .ok (.push_BC, []) ∧
  decode [0b11110001#8] = .ok (.pop_AF, []) ∧
  decode [0b10011100#8] = .ok (.sbc_A_H, []) ∧
  decode [0b11111110#8, 0x3C] = .ok (.cp_n 0x3C, []) ∧
  decode [0b00001101#8] = .ok (.dec_C, []) ∧
  decode [0b00101001#8] = .ok (.add_HL_HL, []) ∧
  decode [0b00011111#8] = .ok (.rra, []) ∧
  decode [0xCB, 0b00110011#8] = .ok (.swap_E, []) ∧
  decode [0xCB, 0b01111111#8] = .ok (.bit_7_A, []) ∧
  decode [0xCB, 0b10011110#8] = .ok (.res_3_mHL, []) ∧
  decode [0b11011100#8, 0x34, 0x12] = .ok (.call_C_nn 0x1234, []) ∧
  decode [0b11101111#8] = .ok (.rst_28H, []) ∧
  decode [0b00010000#8, 0x00] = .ok (.stop 0x00, [])

/-! ### 8-bit loads -/

/-- 40_load8.md R150, R151. -/
def Obligations.LoadRegister : Prop :=
  ∀ (rd rs : Reg8) (n : Byte) (s : State),
    encode (.ldRegReg rd rs) = [opByte (0x40 + 8 * regCode rd + regCode rs)] ∧
    exec (.ldRegReg rd rs) s =
      .next { s with regs := s.regs.set8 rd (s.get8 rs), cycles := untakenCost s.cfg (.ldRegReg rd rs) 4 } ∧
    encode (.ldRegImm rd n) = [opByte (0x06 + 8 * regCode rd), n] ∧
    exec (.ldRegImm rd n) s = .next { s with regs := s.regs.set8 rd n, cycles := untakenCost s.cfg (.ldRegImm rd n) 8 }

/-- 40_load8.md R152, R155, R156, R159, R161, R163: one `read8` at the address of the operand. -/
def Obligations.LoadFromMemory : Prop :=
  ∀ (rd : Reg8) (nn : Addr) (n : Byte) (s : State),
    let loads (i : Instr) (r : Reg8) (a : Addr) (c : Nat) : Prop :=
      exec i s = .next { (read8 a s).2 with regs := s.regs.set8 r (read8 a s).1, cycles := untakenCost s.cfg i c }
    (encode (.ldRegMem rd) = [opByte (0x46 + 8 * regCode rd)] ∧ loads (.ldRegMem rd) rd s.hl 8) ∧
    (encode .ld_A_mBC = [0x0A] ∧ loads .ld_A_mBC .a s.bc 8) ∧
    (encode .ld_A_mDE = [0x1A] ∧ loads .ld_A_mDE .a s.de 8) ∧
    (encode (.ld_A_mnn nn) = [0xFA, lo8 nn, hi8 nn] ∧ loads (.ld_A_mnn nn) .a nn 16) ∧
    (encode (.ldh_A_mn n) = [0xF0, n] ∧ loads (.ldh_A_mn n) .a (0xFF00 + zext16 n) 12) ∧
    (encode .ldh_A_mC = [0xF2] ∧ loads .ldh_A_mC .a (0xFF00 + zext16 s.regs.c) 8)

/-- 40_load8.md R153, R154, R157, R158, R160, R162, R164: one `write8` at the address of the operand; 41_load16_stack.md R183: the low byte
of `SP` at `nn`, then its high byte at `nn + 1`. -/
def Obligations.StoreToMemory : Prop :=
  ∀ (r : Reg8) (nn : Addr) (n : Byte) (s : State),
    let stores (i : Instr) (a : Addr) (v : Byte) (c : Nat) : Prop :=
      exec i s = .next { write8 a v s with cycles := untakenCost s.cfg i c }
    (encode (.ldMemReg r) = [opByte (0x70 + regCode r)] ∧ stores (.ldMemReg r) s.hl (s.get8 r) 8) ∧
    (encode (.ld_mHL_n n) = [0x36, n] ∧ stores (.ld_mHL_n n) s.hl n 12) ∧
    (encode .ld_mBC_A = [0x02] ∧ stores .ld_mBC_A s.bc s.regs.a 8) ∧
    (encode .ld_mDE_A = [0x12] ∧ stores .ld_mDE_A s.de s.regs.a 8) ∧
    (encode (.ld_mnn_A nn) = [0xEA, lo8 nn, hi8 nn] ∧ stores (.ld_mnn_A nn) nn s.regs.a 16) ∧
    (encode (.ldh_mn_A n) = [0xE0, n] ∧ stores (.ldh_mn_A n) (0xFF00 + zext16 n) s.regs.a 12) ∧
    (encode .ldh_mC_A = [0xE2] ∧ stores .ldh_mC_A (0xFF00 + zext16 s.regs.c) s.regs.a 8) ∧
    (encode (.ld_mnn_SP nn) = [0x08, lo8 nn, hi8 nn] ∧
      exec (.ld_mnn_SP nn) s =
        .next { write8 (nn + 1) (hi8 s.regs.sp) (write8 nn (lo8 s.regs.sp) s) with cycles := untakenCost s.cfg (.ld_mnn_SP nn) 20 })

/-- 40_load8.md R165 to R168: the access is at the old `HL`. -/
def Obligations.LoadAndStepHL : Prop :=
  ∀ (s : State),
    let loads (i : Instr) (hl : Addr) : Prop :=
      exec i s = .next { (read8 s.hl s).2 with
        regs := { s.regs with a := (read8 s.hl s).1, h := hi8 hl, l := lo8 hl }, cycles := untakenCost s.cfg i 8 }
    let stores (i : Instr) (hl : Addr) : Prop :=
      exec i s = .next { write8 s.hl s.regs.a s with regs := { s.regs with h := hi8 hl, l := lo8 hl }, cycles := untakenCost s.cfg i 8 }
    (encode .ld_A_mHLi = [0x2A] ∧ loads .ld_A_mHLi (s.hl + 1)) ∧
    (encode .ld_A_mHLd = [0x3A] ∧ loads .ld_A_mHLd (s.hl - 1)) ∧
    (encode .ld_mHLi_A = [0x22] ∧ stores .ld_mHLi_A (s.hl + 1)) ∧
    (encode .ld_mHLd_A = [0x32] ∧ stores .ld_mHLd_A (s.hl - 1))

/-! ### 16-bit loads and the stack -/

/-- 41_load16_stack.md R182, R184. -/
def Obligations.LoadPair : Prop :=
  ∀ (p : RP) (nn : Addr) (s : State),
    encode (.ldPairImm p nn) = [opByte (0x01 + 16 * rpCode p), lo8 nn, hi8 nn] ∧
    exec (.ldPairImm p nn) s =
      .next { s with
        regs := (match p with
          | .bc => { s.regs with b := hi8 nn, c := lo8 nn }
          | .de => { s.regs with d := hi8 nn, e := lo8 nn }
          | .hl => { s.regs with h := hi8 nn, l := lo8 nn }
          | .sp => { s.regs with sp := nn })
        cycles := untakenCost s.cfg (.ldPairImm p nn) 12 } ∧
    encode .ld_SP_HL = [0xF9] ∧
    exec .ld_SP_HL s = .next { s with regs := { s.regs with sp := mk16 s.regs.h s.regs.l }, cycles := untakenCost s.cfg .ld_SP_HL 8 }

/-- 41_load16_stack.md R185 with 43_alu16.md R240: `HL` is `SP` plus the signed offset, the half-carry and carry are those of adding the
unsigned byte to the low byte of `SP`, `Z` and `N` are 0, `SP` is unchanged. -/
def Obligations.LoadHLFromSP : Prop :=
  ∀ (e : Byte) (s : State),
    let r := s.regs.sp + sext16 e
    encode (.ld_HL_SPe e) = [0xF8, e] ∧
    exec (.ld_HL_SPe e) s =
      .next { s with
        regs := { s.regs with
          h := hi8 r, l := lo8 r
          f := packF false false (decide (s.regs.sp.toNat % 16 + e.toNat % 16 > 0xF)) (decide (s.regs.sp.toNat % 256 + e.toNat > 0xFF)) }
        cycles := untakenCost s.cfg (.ld_HL_SPe e) 12 }

/-- 41_load16_stack.md R180, R186, R188: the high byte at `SP - 1`, then the low byte at `SP - 2`. -/
def Obligations.PushPair : Prop :=
  ∀ (p : RP2) (s : State),
    let hl : Byte × Byte := match p with
      | .bc => (s.regs.b, s.regs.c)
      | .de => (s.regs.d, s.regs.e)
      | .hl => (s.regs.h, s.regs.l)
      | .af => (s.regs.a, s.regs.f)
    encode (.push p) = [opByte (0xC5 + 16 * rp2Code p)] ∧
    exec (.push p) s =
      .next { write8 (s.regs.sp - 2) hl.2 (write8 (s.regs.sp - 1) hl.1 s) with
        regs := { s.regs with sp := s.regs.sp - 2 }, cycles := untakenCost s.cfg (.push p) 16 }

/-- 41_load16_stack.md R181, R187, R189: the low byte from `SP`, then the high byte from `SP + 1`; of a byte popped into `F` the low nibble
is dropped. -/
def Obligations.PopPair : Prop :=
  ∀ (p : RP2) (s : State),
    let lo := read8 s.regs.sp s
    let hi := read8 (s.regs.sp + 1) lo.2
    encode (.pop p) = [opByte (0xC1 + 16 * rp2Code p)] ∧
    exec (.pop p) s =
      .next { hi.2 with
        regs := { (match p with
          | .bc => { s.regs with b := hi.1, c := lo.1 }
          | .de => { s.regs with d := hi.1, e := lo.1 }
          | .hl => { s.regs with h := hi.1, l := lo.1 }
          | .af => { s.regs with a := hi.1, f := lo.1 &&& 0xF0 }) with sp := s.regs.sp + 2 }
        cycles := untakenCost s.cfg (.pop p) 12 }

/-- 41_load16_stack.md R181: "Stack round-trip", wherever the two stack bytes are two different plain cells of the block. -/
def Obligations.StackRoundTrip : Prop :=
  ∀ (v : Addr) (s : State) (c d : Cell),
    cellOf s (s.regs.sp - 1) = some c → cellOf s (s.regs.sp - 2) = some d → c ≠ d →
    halfByteRam s.mapper = false → triggersDma (s.regs.sp - 1) s = false → triggersDma (s.regs.sp - 2) s = false →
    (pop16 (push16 v s)).1 = v ∧ (pop16 (push16 v s)).2.regs = s.regs

/-! ### 8-bit arithmetic -/

/-- 42_alu8.md R200, R202, R203, R210, R211, R228, R229: the formulas of R200 over integers, with the carry in for `ADC` only. -/
def Obligations.AddAndAdc : Prop :=
  ∀ (r : Reg8) (n : Byte) (s : State),
    let carry := (fC s.regs.f).toNat
    let adds (i : Instr) (m : State) (v : Byte) (cin c : Nat) : Prop :=
      exec i s = .next { m with
        regs := { s.regs with a := (specAdd s.regs.a v cin).1, f := (specAdd s.regs.a v cin).2 }, cycles := untakenCost s.cfg i c }
    (encode (.aluReg .add r) = [opByte (0x80 + regCode r)] ∧ adds (.aluReg .add r) s (s.get8 r) 0 4) ∧
    (encode (.aluReg .adc r) = [opByte (0x88 + regCode r)] ∧ adds (.aluReg .adc r) s (s.get8 r) carry 4) ∧
    (encode .add_A_mHL = [0x86] ∧ adds .add_A_mHL (read8 s.hl s).2 (read8 s.hl s).1 0 8) ∧
    (encode .adc_A_mHL = [0x8E] ∧ adds .adc_A_mHL (read8 s.hl s).2 (read8 s.hl s).1 carry 8) ∧
    (encode (.add_A_n n) = [0xC6, n] ∧ adds (.add_A_n n) s n 0 8) ∧
    (encode (.adc_A_n n) = [0xCE, n] ∧ adds (.adc_A_n n) s n carry 8)

/-- 42_alu8.md R201, R204, R205, R212, R213, R230, R231: the formulas of R201 over integers, with the borrow in for `SBC` only. -/
def Obligations.SubAndSbc : Prop :=
  ∀ (r : Reg8) (n : Byte) (s : State),
    let carry := (fC s.regs.f).toNat
    let subs (i : Instr) (m : State) (v : Byte) (cin c : Nat) : Prop :=
      exec i s = .next { m with
        regs := { s.regs with a := (specSub s.regs.a v cin).1, f := (specSub s.regs.a v cin).2 }, cycles := untakenCost s.cfg i c }
    (encode (.aluReg .sub r) = [opByte (0x90 + regCode r)] ∧ subs (.aluReg .sub r) s (s.get8 r) 0 4) ∧
    (encode (.aluReg .sbc r) = [opByte (0x98 + regCode r)] ∧ subs (.aluReg .sbc r) s (s.get8 r) carry 4) ∧
    (encode .sub_mHL = [0x96] ∧ subs .sub_mHL (read8 s.hl s).2 (read8 s.hl s).1 0 8) ∧
    (encode .sbc_A_mHL = [0x9E] ∧ subs .sbc_A_mHL (read8 s.hl s).2 (read8 s.hl s).1 carry 8) ∧
    (encode (.sub_n n) = [0xD6, n] ∧ subs (.sub_n n) s n 0 8) ∧
    (encode (.sbc_A_n n) = [0xDE, n] ∧ subs (.sbc_A_n n) s n carry 8)

/-- 42_alu8.md R209, R217, R235: only `F` changes; `fZ` iff `A` equals the operand, `fC` iff `A` is below it. -/
def Obligations.CompareAccumulator : Prop :=
  ∀ (r : Reg8) (n : Byte) (s : State),
    let compares (i : Instr) (m : State) (v : Byte) (c : Nat) : Prop :=
      exec i s = .next { m with
        regs := { s.regs with
          f := packF (decide (s.regs.a = v)) true (decide (s.regs.a.toNat % 16 < v.toNat % 16)) (decide (s.regs.a.toNat < v.toNat)) }
        cycles := untakenCost s.cfg i c }
    (encode (.aluReg .cp r) = [opByte (0xB8 + regCode r)] ∧ compares (.aluReg .cp r) s (s.get8 r) 4) ∧
    (encode .cp_mHL = [0xBE] ∧ compares .cp_mHL (read8 s.hl s).2 (read8 s.hl s).1 8) ∧
    (encode (.cp_n n) = [0xFE, n] ∧ compares (.cp_n n) s n 8)

/-- 42_alu8.md R206 to R208, R214 to R216, R232 to R234. -/
def Obligations.LogicalOperations : Prop :=
  ∀ (r : Reg8) (n : Byte) (s : State),
    let gives (i : Instr) (m : State) (res : Byte) (h : Bool) (c : Nat) : Prop :=
      exec i s = .next { m with
        regs := { s.regs with a := res, f := packF (decide (res = 0)) false h false }, cycles := untakenCost s.cfg i c }
    let a := s.regs.a
    let x := s.get8 r
    let m := (read8 s.hl s).2
    let v := (read8 s.hl s).1
    (encode (.aluReg .and r) = [opByte (0xA0 + regCode r)] ∧ gives (.aluReg .and r) s (a &&& x) true 4) ∧
    (encode (.aluReg .xor r) = [opByte (0xA8 + regCode r)] ∧ gives (.aluReg .xor r) s (a ^^^ x) false 4) ∧
    (encode (.aluReg .or r) = [opByte (0xB0 + regCode r)] ∧ gives (.aluReg .or r) s (a ||| x) false 4) ∧
    (encode .and_mHL = [0xA6] ∧ gives .and_mHL m (a &&& v) true 8) ∧
    (encode .xor_mHL = [0xAE] ∧ gives .xor_mHL m (a ^^^ v) false 8) ∧
    (encode .or_mHL = [0xB6] ∧ gives .or_mHL m (a ||| v) false 8) ∧
    (encode (.and_n n) = [0xE6, n] ∧ gives (.and_n n) s (a &&& n) true 8) ∧
    (encode (.xor_n n) = [0xEE, n] ∧ gives (.xor_n n) s (a ^^^ n) false 8) ∧
    (encode (.or_n n) = [0xF6, n] ∧ gives (.or_n n) s (a ||| n) false 8)

/-- 42_alu8.md R220, R222: the carry flag is kept. -/
def Obligations.IncDecRegister : Prop :=
  ∀ (r : Reg8) (s : State),
    let old := s.get8 r
    encode (.incReg r) = [opByte (0x04 + 8 * regCode r)] ∧
    exec (.incReg r) s =
      .next { s with
        regs := { s.regs.set8 r (old + 1) with
          f := packF (decide ((old.toNat + 1) % 256 = 0)) false (decide (old.toNat % 16 = 15)) (fC s.regs.f) }
        cycles := untakenCost s.cfg (.incReg r) 4 } ∧
    encode (.decReg r) = [opByte (0x05 + 8 * regCode r)] ∧
    exec (.decReg r) s =
      .next { s with
        regs := { s.regs.set8 r (old - 1) with
          f := packF (decide (old.toNat = 1)) true (decide (old.toNat % 16 = 0)) (fC s.regs.f) }
        cycles := untakenCost s.cfg (.decReg r) 4 }

/-- 42_alu8.md R221, R223: one read and one write at `HL`; the flags come from the computed byte. -/
def Obligations.IncDecMemory : Prop :=
  ∀ (s : State),
    let old := (read8 s.hl s).1
    encode .inc_mHL = [0x34] ∧
    exec .inc_mHL s =
      .next { write8 s.hl (old + 1) (read8 s.hl s).2 with
        regs := { s.regs with f := packF (decide ((old.toNat + 1) % 256 = 0)) false (decide (old.toNat % 16 = 15)) (fC s.regs.f) }
        cycles := untakenCost s.cfg .inc_mHL 12 } ∧
    encode .dec_mHL = [0x35] ∧
    exec .dec_mHL s =
      .next { write8 s.hl (old - 1) (read8 s.hl s).2 with
        regs := { s.regs with f := packF (decide (old.toNat = 1)) true (decide (old.toNat % 16 = 0)) (fC s.regs.f) }
        cycles := untakenCost s.cfg .dec_mHL 12 }

/-- 42_alu8.md R224, over integers, for every accumulator and every flag combination. -/
def Obligations.DecimalAdjust : Prop :=
  ∀ (s : State),
    let o := specDaa s.regs.a.toNat (fN s.regs.f) (fH s.regs.f) (fC s.regs.f)
    encode .daa = [0x27] ∧
    exec .daa s =
      .next { s with
        regs := { s.regs with a := BitVec.ofNat 8 o.1, f := packF (decide (o.1 = 0)) (fN s.regs.f) false o.2 }
        cycles := untakenCost s.cfg .daa 4 }

/-- 42_alu8.md R225 to R227. -/
def Obligations.ComplementAndCarry : Prop :=
  ∀ (s : State),
    let f := s.regs.f
    encode .cpl = [0x2F] ∧
    exec .cpl s =
      .next { s with regs := { s.regs with a := ~~~s.regs.a, f := packF (fZ f) true true (fC f) }, cycles := untakenCost s.cfg .cpl 4 } ∧
    encode .scf = [0x37] ∧
    exec .scf s = .next { s with regs := { s.regs with f := packF (fZ f) false false true }, cycles := untakenCost s.cfg .scf 4 } ∧
    encode .ccf = [0x3F] ∧
    exec .ccf s = .next { s with regs := { s.regs with f := packF (fZ f) false false (!fC f) }, cycles := untakenCost s.cfg .ccf 4 }

/-! ### 16-bit arithmetic -/

/-- 43_alu16.md R241, over integers; `ADD HL,HL` doubles `HL`. -/
def Obligations.AddToHL : Prop :=
  ∀ (p : RP) (s : State),
    let a := s.hl.toNat
    let b := (s.getRP p).toNat
    let r : Addr := BitVec.ofNat 16 ((a + b) % 65536)
    encode (.addHL p) = [opByte (0x09 + 16 * rpCode p)] ∧
    exec (.addHL p) s =
      .next { s with
        regs := { s.regs with
          h := hi8 r, l := lo8 r
          f := packF (fZ s.regs.f) false (decide (a % 4096 + b % 4096 > 0xFFF)) (decide (a + b > 0xFFFF)) }
        cycles := untakenCost s.cfg (.addHL p) 8 }

/-- 43_alu16.md R242, R243: the pair alone changes, modulo 65536, no flag. -/
def Obligations.IncDecPair : Prop :=
  ∀ (p : RP) (s : State),
    let written (v : Addr) : RegFile := match p with
      | .bc => { s.regs with b := hi8 v, c := lo8 v }
      | .de => { s.regs with d := hi8 v, e := lo8 v }
      | .hl => { s.regs with h := hi8 v, l := lo8 v }
      | .sp => { s.regs with sp := v }
    let old : Addr := match p with
      | .bc => mk16 s.regs.b s.regs.c
      | .de => mk16 s.regs.d s.regs.e
      | .hl => mk16 s.regs.h s.regs.l
      | .sp => s.regs.sp
    encode (.incPair p) = [opByte (0x03 + 16 * rpCode p)] ∧
    exec (.incPair p) s = .next { s with regs := written (old + 1), cycles := untakenCost s.cfg (.incPair p) 8 } ∧
    encode (.decPair p) = [opByte (0x0B + 16 * rpCode p)] ∧
    exec (.decPair p) s = .next { s with regs := written (old - 1), cycles := untakenCost s.cfg (.decPair p) 8 }

/-- 43_alu16.md R240, R244. -/
def Obligations.AddToSP : Prop :=
  ∀ (e : Byte) (s : State),
    encode (.add_SP_e e) = [0xE8, e] ∧
    exec (.add_SP_e e) s =
      .next { s with
        regs := { s.regs with
          sp := s.regs.sp + sext16 e
          f := packF false false (decide (s.regs.sp.toNat % 16 + e.toNat % 16 > 0xF)) (decide (s.regs.sp.toNat % 256 + e.toNat > 0xFF)) }
        cycles := untakenCost s.cfg (.add_SP_e e) 16 }

/-! ### Rotates, shifts and bits -/

/-- 44_rotate_shift_bit.md R250 to R253: `fZ` is 0 whatever the result. -/
def Obligations.AccumulatorRotates : Prop :=
  ∀ (s : State),
    let rotates (i : Instr) (op : RotOp) : Prop :=
      let o := specRotate op s.regs.a.toNat (fC s.regs.f).toNat
      exec i s = .next { s with
        regs := { s.regs with a := BitVec.ofNat 8 o.1, f := packF false false false o.2 }, cycles := untakenCost s.cfg i 4 }
    (encode .rlca = [0x07] ∧ rotates .rlca .rlc) ∧ (encode .rrca = [0x0F] ∧ rotates .rrca .rrc) ∧
    (encode .rla = [0x17] ∧ rotates .rla .rl) ∧ (encode .rra = [0x1F] ∧ rotates .rra .rr)

/-- 44_rotate_shift_bit.md R255 to R262, on the numbers the operations are written over. -/
def Obligations.RotateRegister : Prop :=
  ∀ (op : RotOp) (r : Reg8) (s : State),
    let o := specRotate op (s.get8 r).toNat (fC s.regs.f).toNat
    encode (.rotReg op r) = [0xCB, opByte (8 * rotCode op + regCode r)] ∧
    exec (.rotReg op r) s =
      .next { s with
        regs := { s.regs.set8 r (BitVec.ofNat 8 o.1) with f := packF (decide (o.1 = 0)) false false o.2 }
        cycles := untakenCost s.cfg (.rotReg op r) 8 }

/-- 44_rotate_shift_bit.md R266 to R273: one read and one write at `HL`. -/
def Obligations.RotateMemory : Prop :=
  ∀ (op : RotOp) (s : State),
    let o := specRotate op (read8 s.hl s).1.toNat (fC s.regs.f).toNat
    encode (.rotMem op) = [0xCB, opByte (8 * rotCode op + 6)] ∧
    exec (.rotMem op) s =
      .next { write8 s.hl (BitVec.ofNat 8 o.1) (read8 s.hl s).2 with
        regs := { s.regs with f := packF (decide (o.1 = 0)) false false o.2 }
        cycles := untakenCost s.cfg (.rotMem op) 16 }

/-- 44_rotate_shift_bit.md R263, R274: only `F` changes (and, on memory, what one read changes); nothing is stored. -/
def Obligations.BitTest : Prop :=
  ∀ (b : Fin 8) (r : Reg8) (s : State),
    encode (.bitReg b r) = [0xCB, opByte (0x40 + 8 * b.val + regCode r)] ∧
    exec (.bitReg b r) s =
      .next { s with
        regs := { s.regs with f := packF (decide ((s.get8 r).toNat / 2 ^ b.val % 2 = 0)) false true (fC s.regs.f) }
        cycles := untakenCost s.cfg (.bitReg b r) 8 } ∧
    encode (.bitMem b) = [0xCB, opByte (0x46 + 8 * b.val)] ∧
    exec (.bitMem b) s =
      .next { (read8 s.hl s).2 with
        regs := { s.regs with f := packF (decide ((read8 s.hl s).1.toNat / 2 ^ b.val % 2 = 0)) false true (fC s.regs.f) }
        cycles := untakenCost s.cfg (.bitMem b) 12 }

/-- 44_rotate_shift_bit.md R264, R265, R275, R276: no flag changes; the memory forms write whatever the bit was. -/
def Obligations.BitResetSet : Prop :=
  ∀ (b : Fin 8) (r : Reg8) (s : State),
    let mask := (1 : Byte) <<< b.val
    let v := (read8 s.hl s).1
    (encode (.resReg b r) = [0xCB, opByte (0x80 + 8 * b.val + regCode r)] ∧
      exec (.resReg b r) s =
        .next { s with regs := s.regs.set8 r (s.get8 r &&& ~~~mask), cycles := untakenCost s.cfg (.resReg b r) 8 }) ∧
    (encode (.setReg b r) = [0xCB, opByte (0xC0 + 8 * b.val + regCode r)] ∧
      exec (.setReg b r) s =
        .next { s with regs := s.regs.set8 r (s.get8 r ||| mask), cycles := untakenCost s.cfg (.setReg b r) 8 }) ∧
    (encode (.resMem b) = [0xCB, opByte (0x86 + 8 * b.val)] ∧
      exec (.resMem b) s =
        .next { write8 s.hl (v &&& ~~~mask) (read8 s.hl s).2 with cycles := untakenCost s.cfg (.resMem b) 16 }) ∧
    (encode (.setMem b) = [0xCB, opByte (0xC6 + 8 * b.val)] ∧
      exec (.setMem b) s =
        .next { write8 s.hl (v ||| mask) (read8 s.hl s).2 with cycles := untakenCost s.cfg (.setMem b) 16 })

/-! ### Control transfer. `PC` already points past the instruction's last byte (10_state.md R24). -/

/-- 45_control.md R281, R282, R283, with the conditions of R280 spelled out as flag bits. -/
def Obligations.JumpAbsolute : Prop :=
  ∀ (cc : Cond) (nn : Addr) (s : State),
    let holds : Bool := match cc with
      | .nz => !s.regs.f.getLsbD 7
      | .z => s.regs.f.getLsbD 7
      | .nc => !s.regs.f.getLsbD 4
      | .c => s.regs.f.getLsbD 4
    encode (.jp_nn nn) = [0xC3, lo8 nn, hi8 nn] ∧
    exec (.jp_nn nn) s = .next { s with regs := { s.regs with pc := nn }, cycles := untakenCost s.cfg (.jp_nn nn) 16 } ∧
    encode .jp_HL = [0xE9] ∧
    exec .jp_HL s = .next { s with regs := { s.regs with pc := mk16 s.regs.h s.regs.l }, cycles := untakenCost s.cfg .jp_HL 4 } ∧
    encode (.jpCond cc nn) = [opByte (0xC2 + 8 * condCode cc), lo8 nn, hi8 nn] ∧
    exec (.jpCond cc nn) s =
      (if holds = true then .next { s with regs := { s.regs with pc := nn }, cycles := takenCost s.cfg (.jpCond cc nn) 16 }
       else .next { s with cycles := untakenCost s.cfg (.jpCond cc nn) 12 })

/-- 45_control.md R284, R285: the offset is signed, the sum modulo 65536, no flag is written. -/
def Obligations.JumpRelative : Prop :=
  ∀ (cc : Cond) (e : Byte) (s : State),
    let target : Addr := BitVec.ofInt 16 ((s.regs.pc.toNat : Int) + (if e.toNat < 128 then (e.toNat : Int) else e.toNat - 256))
    encode (.jr_e e) = [0x18, e] ∧
    exec (.jr_e e) s = .next { s with regs := { s.regs with pc := target }, cycles := untakenCost s.cfg (.jr_e e) 12 } ∧
    encode (.jrCond cc e) = [opByte (0x20 + 8 * condCode cc), e] ∧
    exec (.jrCond cc e) s =
      (if s.cond cc = true then .next { s with regs := { s.regs with pc := target }, cycles := takenCost s.cfg (.jrCond cc e) 12 }
       else .next { s with cycles := untakenCost s.cfg (.jrCond cc e) 8 })

/-- 45_control.md R286, R287: the return address is pushed high byte first; an untaken call pushes nothing. -/
def Obligations.CallSubroutine : Prop :=
  ∀ (cc : Cond) (nn : Addr) (s : State),
    let pushed := write8 (s.regs.sp - 2) (lo8 s.regs.pc) (write8 (s.regs.sp - 1) (hi8 s.regs.pc) s)
    let regs : RegFile := { s.regs with sp := s.regs.sp - 2, pc := nn }
    encode (.call_nn nn) = [0xCD, lo8 nn, hi8 nn] ∧
    exec (.call_nn nn) s = .next { pushed with regs := regs, cycles := untakenCost s.cfg (.call_nn nn) 24 } ∧
    encode (.callCond cc nn) = [opByte (0xC4 + 8 * condCode cc), lo8 nn, hi8 nn] ∧
    exec (.callCond cc nn) s =
      (if s.cond cc = true then .next { pushed with regs := regs, cycles := takenCost s.cfg (.callCond cc nn) 24 }
       else .next { s with cycles := untakenCost s.cfg (.callCond cc nn) 12 })

/-- 45_control.md R288, R289: an untaken return does not read the stack. -/
def Obligations.ReturnFromCall : Prop :=
  ∀ (cc : Cond) (s : State),
    let lo := read8 s.regs.sp s
    let hi := read8 (s.regs.sp + 1) lo.2
    let regs : RegFile := { s.regs with sp := s.regs.sp + 2, pc := mk16 hi.1 lo.1 }
    encode .ret = [0xC9] ∧
    exec .ret s = .next { hi.2 with regs := regs, cycles := untakenCost s.cfg .ret 16 } ∧
    encode (.retCond cc) = [opByte (0xC0 + 8 * condCode cc)] ∧
    exec (.retCond cc) s =
      (if s.cond cc = true then .next { hi.2 with regs := regs, cycles := takenCost s.cfg (.retCond cc) 20 }
       else .next { s with cycles := untakenCost s.cfg (.retCond cc) 8 })

/-- 45_control.md R290. -/
def Obligations.RestartVector : Prop :=
  ∀ (y : Fin 8) (s : State),
    encode (.rst y) = [opByte (0xC7 + 8 * y.val)] ∧
    exec (.rst y) s =
      .next { write8 (s.regs.sp - 2) (lo8 s.regs.pc) (write8 (s.regs.sp - 1) (hi8 s.regs.pc) s) with
        regs := { s.regs with sp := s.regs.sp - 2, pc := BitVec.ofNat 16 (8 * y.val) }
        cycles := untakenCost s.cfg (.rst y) 16 }

/-- 45_control.md R292: `IME` is set at once and a pending `EI` is absorbed. -/
def Obligations.ReturnFromInterrupt : Prop :=
  ∀ (s : State),
    let lo := read8 s.regs.sp s
    let hi := read8 (s.regs.sp + 1) lo.2
    encode .reti = [0xD9] ∧
    exec .reti s =
      .next { hi.2 with
        regs := { s.regs with sp := s.regs.sp + 2, pc := mk16 hi.1 lo.1 }
        ime := true, imePending := false, cycles := untakenCost s.cfg .reti 16 }

/-! ### System instructions -/

/-- 46_system.md R300 to R304: what the five instructions themselves change. -/
def Obligations.SystemInstructions : Prop :=
  ∀ (n : Byte) (s : State),
    (encode .nop = [0x00] ∧ exec .nop s = .next { s with cycles := untakenCost s.cfg .nop 4 }) ∧
    (encode .halt = [0x76] ∧ exec .halt s = .next { s with halted := true, cycles := untakenCost s.cfg .halt 4 }) ∧
    (encode (.stop n) = [0x10, n] ∧ exec (.stop n) s = .next { s with halted := true, cycles := untakenCost s.cfg (.stop n) 4 }) ∧
    (encode .di = [0xF3] ∧ exec .di s = .next { s with ime := false, imePending := false, cycles := untakenCost s.cfg .di 4 }) ∧
    (encode .ei = [0xFB] ∧ exec .ei s = .next { s with imePending := true, cycles := untakenCost s.cfg .ei 4 })

/-- 46_system.md R306: a 4-cycle no-op that names the opcode and its address in an anomaly and in the outcome. -/
def Obligations.UndefinedOpcodes : Prop :=
  ∀ (op : Byte) (i : Instr), UndefinedOpcode op i → ∀ s : State,
    encode i = [op] ∧
    exec i s =
      .next { s with
        anomalies := s.anomalies ++ [.unimplementedOpcode op (s.regs.pc - 1)]
        outcome := .unimplemented op (s.regs.pc - 1)
        cycles := untakenCost s.cfg i 4 }

/-- 46_system.md R305, 30_encoding.md R132: the row of the prefix byte runs the 0xCB table's entry for its second byte, by the fields of that
byte, and completes. -/
def Obligations.PrefixRow : Prop :=
  ∀ (op2 : Byte) (y : Fin 8) (r : Reg8) (op : RotOp) (s : State),
    (∃ t, exec (.prefix_CB op2) s = .next t) ∧
    exec (.prefix_CB (opByte (8 * rotCode op + regCode r))) s = exec (.rotReg op r) s ∧
    exec (.prefix_CB (opByte (8 * rotCode op + 6))) s = exec (.rotMem op) s ∧
    exec (.prefix_CB (opByte (0x40 + 8 * y.val + regCode r))) s = exec (.bitReg y r) s ∧
    exec (.prefix_CB (opByte (0x46 + 8 * y.val))) s = exec (.bitMem y) s ∧
    exec (.prefix_CB (opByte (0x80 + 8 * y.val + regCode r))) s = exec (.resReg y r) s ∧
    exec (.prefix_CB (opByte (0x86 + 8 * y.val))) s = exec (.resMem y) s ∧
    exec (.prefix_CB (opByte (0xC0 + 8 * y.val + regCode r))) s = exec (.setReg y r) s ∧
    exec (.prefix_CB (opByte (0xC6 + 8 * y.val))) s = exec (.setMem y) s

/-! ### The step -/

/-- 60_exceptions.md R320 phases 3 and 4, with 30_encoding.md R122: a step that neither idles nor takes an interrupt fetches the instruction
at `PC`, byte by byte, and runs it with `PC` past its own bytes and no further byte read. The order of the phases and the waking with `IME`
false are the spec's decisions D3, D4, D6 (notes/assumptions/21.md, 25.md); the requests that the step takes first are the model's schedule
(notes/assumptions/5.md), and the sum its ghost counter of 70_reset_and_hazards.md R375 (notes/assumptions/6.md). -/
def Obligations.StepRunsInstruction : Prop :=
  ∀ (s : State) (i : Instr) (rest : List Byte),
    let s0 := takeRequests s
    let pend := s0.ifr &&& s0.ie &&& 0x1F
    let u : State := { s0 with outcome := .handled, halted := false, ime := s0.ime || s0.imePending, imePending := false }
    let b0 := fetch8 u
    let b1 := fetch8 b0.2
    let b2 := fetch8 b1.2
    (pend = 0 → s0.halted = false) → (pend ≠ 0 → s0.ime = false) →
    decode [b0.1, b1.1, b2.1] = .ok (i, rest) →
    ∃ t, exec i (if rest.length = 2 then b0.2 else if rest.length = 1 then b1.2 else b2.2) = .next t ∧
      step s = .next { t with cycleTotal := s.cycleTotal + t.cycles }

/-- 60_exceptions.md R320 phase 1: while halted with nothing pending a step changes nothing and reports 4 cycles. The count and the mask are
the spec's decisions D4 and D5 (notes/assumptions/25.md), the 4 outside `cfg.cycles` the model's reading (notes/assumptions/9.md); the
requests that the step takes first are the model's schedule (notes/assumptions/5.md), and the sum its ghost counter of
70_reset_and_hazards.md R375 (notes/assumptions/6.md). -/
def Obligations.StepIdles : Prop :=
  ∀ (s : State),
    let s0 := takeRequests s
    s0.halted = true → s0.ifr &&& s0.ie &&& 0x1F = 0 →
    step s = .next { s0 with outcome := .handled, cycles := 4, cycleTotal := s.cycleTotal + 4 }

/-- 60_exceptions.md R332, R333: with `IME` set, the pending source of the lowest number is taken, halted or not; its `IF` bit alone is
cleared, then `PC` is pushed, high byte first, and control goes to the source's vector. That the check precedes any fetch is R320 with the
spec's decision D3, the five bits that count its decision D5 (notes/assumptions/25.md), `ime_pending` its decision D6
(notes/assumptions/21.md); the 20 cycles are its decision D18, outside `cfg.cycles` by the model's reading (notes/assumptions/9.md). The
requests that the step takes first are the model's schedule (notes/assumptions/5.md), and the sum its ghost counter of
70_reset_and_hazards.md R375 (notes/assumptions/6.md). -/
def Obligations.StepTakesInterrupt : Prop :=
  ∀ (s : State) (src : Source),
    let s0 := takeRequests s
    let pends (n : Nat) : Bool := s0.ifr.getLsbD n && s0.ie.getLsbD n
    let number : Nat := match src with
      | .vblank => 0
      | .lcdStatus => 1
      | .timer => 2
      | .serial => 3
      | .joypad => 4
    let vector : Addr := match src with
      | .vblank => s.cfg.vectors.vblank
      | .lcdStatus => s.cfg.vectors.lcdStatus
      | .timer => s.cfg.vectors.timer
      | .serial => s.cfg.vectors.serial
      | .joypad => s.cfg.vectors.joypad
    s0.ime = true → pends number = true → (∀ n, n < number → pends n = false) →
    let s1 : State :=
      { s0 with outcome := .handled, halted := false, ime := false, imePending := false, ifr := s0.ifr &&& ~~~((1 : Byte) <<< number) }
    step s =
      .next { write8 (s.regs.sp - 2) (lo8 s.regs.pc) (write8 (s.regs.sp - 1) (hi8 s.regs.pc) s1) with
        regs := { s.regs with sp := s.regs.sp - 2, pc := vector }, cycles := 20, cycleTotal := s.cycleTotal + 20 }

/-- 46_system.md R304, 60_exceptions.md R320 phase 3, 70_reset_and_hazards.md R371: the step after `EI` runs an instruction whatever is
pending, and runs it with `IME` already true, so that the step after it is the first that can take an interrupt. The delay is the spec's
decision D6 (notes/assumptions/21.md); the requests that the step takes first are the model's schedule (notes/assumptions/5.md), and the sum
its ghost counter of 70_reset_and_hazards.md R375 (notes/assumptions/6.md). -/
def Obligations.EiDelay : Prop :=
  ∀ (s t : State),
    s.ime = false → s.halted = false → exec .ei s = .next t →
    let u : State := { takeRequests t with outcome := .handled, ime := true, imePending := false }
    t.ime = false ∧ t.imePending = true ∧
    (∃ v, exec (fetchInstr u).1 (fetchInstr u).2 = .next v ∧ step t = .next { v with cycleTotal := t.cycleTotal + v.cycles }) ∧
    (fetchInstr u).2.ime = true ∧ (fetchInstr u).2.imePending = false

/-- 60_exceptions.md R331: the requests asserted before a step are OR-ed into `IF`, whatever `IME` and `IE` hold; nothing else changes but
the schedule they were taken from (the model's own field, notes/assumptions/5.md). -/
def Obligations.RequestsSetFlagBits : Prop :=
  ∀ (s : State) (lines : BitVec 5) (later : List (BitVec 5)),
    (s.irqLines = [] → takeRequests s = s) ∧
    (s.irqLines = lines :: later →
      takeRequests s = { s with ifr := s.ifr ||| (0#3 ++ lines), irqLines := later } ∧
      ∀ n, n < 8 → (takeRequests s).ifr.getLsbD n = (s.ifr.getLsbD n || decide (n < 5) && lines.getLsbD n))

/-- 60_exceptions.md R340: no step of any state stops; 70_reset_and_hazards.md R375: the count it reports is added to the sum of all counts,
the model's ghost counter (notes/assumptions/6.md). -/
def Obligations.StepTotal : Prop := ∀ s : State, ∃ t, step s = .next t ∧ t.cycleTotal = s.cycleTotal + t.cycles

/-! ### Invariants and reset -/

/-- Every step, of every well-formed state, gives a well-formed state: `F` keeps a zero low nibble (10_state.md R21), every memory keeps its
canonical form within its size (R34), MBC2 cells stay half-bytes and bank registers legal (20_memory.md R100 to R104). -/
def Obligations.StepKeepsInv : Prop := ∀ s t : State, Inv s → step s = .next t → Inv t

/-- The machine right after reset is well formed. Its cartridge is the model's choice (notes/assumptions/1.md). -/
def Obligations.ResetInv : Prop := Inv State.reset

/-- 10_state.md R36, 70_reset_and_hazards.md R360: the reset values, at power-on with any configuration and at a later reset of any state,
which keeps the RAM arrays. What the model adds of its own (outputs, log, schedule) is not stated. -/
def Obligations.ResetValues : Prop :=
  ∀ (cfg : Config) (loaded : List Anomaly) (s : State),
    let zeroed (t : State) : Prop :=
      t.regs.a = 0 ∧ t.regs.b = 0 ∧ t.regs.c = 0 ∧ t.regs.d = 0 ∧ t.regs.e = 0 ∧ t.regs.h = 0 ∧ t.regs.l = 0 ∧ t.regs.f = 0 ∧
      t.regs.pc = 0x0100 ∧ t.regs.sp = 0xFFFE ∧ t.ime = false ∧ t.halted = false ∧ t.imePending = false ∧
      t.ie = 0 ∧ t.ifr = 0 ∧ t.dma = 0 ∧
      t.mapper = (match t.cfg.mapper with
        | .mbc1 => .mbc1 { ramEn := false, bank1 := 1, bank2 := 0, mode := 0 }
        | .mbc2 => .mbc2 { ramEn := false, romBank := 1 }
        | .mbc3 => .mbc3 { ramEn := false, romBank := 1, sel := 0 }
        | .mbc5 => .mbc5 { ramEn := false, romBank := 1, ramBank := 0 }
        | .unbanked | .mbc4 | .unknown => .unbanked)
    zeroed State.reset ∧
    (zeroed (State.powerOn cfg loaded) ∧ (State.powerOn cfg loaded).cfg = cfg ∧
      (∀ i, i < 8192 → ramByte .wram (State.powerOn cfg loaded).wram i = Config.powerOnByte .wram i) ∧
      (∀ i, i < 160 → ramByte .oam (State.powerOn cfg loaded).oam i = Config.powerOnByte .oam i) ∧
      (∀ i, i < 127 → ramByte .hram (State.powerOn cfg loaded).hram i = Config.powerOnByte .hram i) ∧
      (cfg.xramInit = none → ∀ i, ramByte .xram (State.powerOn cfg loaded).xram i = Config.powerOnByte .xram i) ∧
      (∀ bytes, cfg.xramInit = some bytes → cfg.mapper ≠ .mbc2 → ∀ i (h : i < bytes.length),
        ramByte .xram (State.powerOn cfg loaded).xram i = bytes[i])) ∧
    (zeroed s.onReset ∧ s.onReset.cfg = s.cfg ∧ s.onReset.wram = s.wram ∧ s.onReset.oam = s.oam ∧ s.onReset.hram = s.hram ∧
      s.onReset.xram = s.xram ∧ s.onReset.anomalies = s.anomalies)

/-- 20_memory.md R88: no step changes the cartridge image or any other part of the configuration. -/
def Obligations.StepKeepsCartridge : Prop := ∀ s t : State, step s = .next t → t.cfg = s.cfg

/-! ### Frames over all instructions -/

/-- 10_state.md R26: the instructions outside the flag table, and those with `-` in all its columns, leave `F` unchanged. -/
def Obligations.FlagFrame : Prop := ∀ i : Instr, KeepsFlags i → ∀ s t : State, exec i s = .next t → t.regs.f = s.regs.f

/-- 10_state.md R24, R25, R27 to R29: only control transfers write `PC`, only the stack and `SP` instructions write `SP`, only `DI` and
`RETI` write `IME`, only they and `EI` write `ime_pending`, only `HALT` and `STOP` write `halted`; no instruction changes the configuration,
the schedule of requests or the sum of cycle counts (the step adds to it), and only an undefined opcode reports an outcome of its own. -/
def Obligations.ControlFrame : Prop :=
  ∀ (i : Instr) (s t : State), exec i s = .next t →
    (¬ Transfers i → t.regs.pc = s.regs.pc) ∧
    (¬ MovesSP i → t.regs.sp = s.regs.sp) ∧
    (i ≠ .di → i ≠ .reti → t.ime = s.ime) ∧
    (i ≠ .di → i ≠ .reti → i ≠ .ei → t.imePending = s.imePending) ∧
    (i ≠ .halt → (∀ n, i ≠ .stop n) → t.halted = s.halted) ∧
    t.cfg = s.cfg ∧ t.irqLines = s.irqLines ∧ t.cycleTotal = s.cycleTotal ∧
    ((∀ op, ¬ UndefinedOpcode op i) → t.outcome = s.outcome)

/-- 20_memory.md R60 to R86: what an instruction does to memory, for every instruction. An address that no peripheral answers for reads as
before unless the instruction stores where `mayChange` says it shows; an instruction that stores nowhere changes nothing; the mapper
changes only by a store into the ROM window. -/
def Obligations.MemoryFrame : Prop :=
  ∀ (i : Instr) (s t : State), exec i s = .next t →
    (∀ a : Addr, isPort s a = false → (∀ A, StoresAt i s A → ¬ mayChange s A a) → peek t a = peek s a) ∧
    ((∀ A, StoresAt i s A → regionOf A ≠ .rom) → t.mapper = s.mapper)

/-! ### The address map -/

/-- 20_memory.md R61 to R73, range by range: what each access answers and what it changes. The cartridge windows are in the statements
about the mappers; what an attached peripheral answers is some byte. -/
def Obligations.MemoryMap : Prop :=
  ∀ (a : Addr) (v : Byte) (s : State),
    let n := a.toNat
    (n < 0x8000 → (read8 a s).2 = s ∧ ∃ m, write8 a v s = { s with mapper := m }) ∧
    (0x8000 ≤ n → n < 0xA000 → s.cfg.vramAttached = false → read8 a s = (0xFF, s) ∧ write8 a v s = s) ∧
    (0x8000 ≤ n → n < 0xA000 → s.cfg.vramAttached = true →
      (∃ b, read8 a s = (b, { s with portLog := s.portLog ++ [.vramRead a], portReads := s.portReads + 1 })) ∧
      write8 a v s = { s with portLog := s.portLog ++ [.vramWrite a v] }) ∧
    (0xA000 ≤ n → n < 0xC000 → (read8 a s).2 = s ∧ ∃ x, write8 a v s = { s with xram := x }) ∧
    (0xC000 ≤ n → n < 0xE000 → read8 a s = (ramByte .wram s.wram (n - 0xC000), s) ∧
      write8 a v s = { s with wram := Memory.set s.wram (n - 0xC000) v }) ∧
    (0xE000 ≤ n → n < 0xFE00 → read8 a s = read8 (a - 0x2000) s ∧ write8 a v s = write8 (a - 0x2000) v s) ∧
    (0xFE00 ≤ n → n < 0xFEA0 → read8 a s = (ramByte .oam s.oam (n - 0xFE00), s) ∧
      write8 a v s = { s with oam := Memory.set s.oam (n - 0xFE00) v }) ∧
    (0xFEA0 ≤ n → n < 0xFF00 → read8 a s = (0xFF, { s with anomalies := s.anomalies ++ [.unusableRead a] }) ∧
      write8 a v s = { s with anomalies := s.anomalies ++ [.unusableWrite a v] }) ∧
    (0xFF00 ≤ n → n < 0xFF80 → a = s.cfg.ifAddr → read8 a s = (s.ifr, s) ∧ write8 a v s = { s with ifr := v }) ∧
    (0xFF00 ≤ n → n < 0xFF80 → a ≠ s.cfg.ifAddr → a = s.cfg.dmaAddr →
      read8 a s = (s.dma, s) ∧ write8 a v s = dmaCopy v { s with dma := v }) ∧
    (0xFF00 ≤ n → n < 0xFF80 → a ≠ s.cfg.ifAddr → a ≠ s.cfg.dmaAddr → s.cfg.ioAttached = false →
      read8 a s = (0xFF, s) ∧ write8 a v s = s) ∧
    (0xFF00 ≤ n → n < 0xFF80 → a ≠ s.cfg.ifAddr → a ≠ s.cfg.dmaAddr → s.cfg.ioAttached = true →
      (∃ b, read8 a s = (b, { s with portLog := s.portLog ++ [.ioRead a], portReads := s.portReads + 1 })) ∧
      write8 a v s = { s with portLog := s.portLog ++ [.ioWrite a v] }) ∧
    (0xFF80 ≤ n → n < 0xFFFF → read8 a s = (ramByte .hram s.hram (n - 0xFF80), s) ∧
      write8 a v s = { s with hram := Memory.set s.hram (n - 0xFF80) v }) ∧
    (n = 0xFFFF → read8 a s = (s.ie, s) ∧ write8 a v s = { s with ie := v })

/-- 20_memory.md R66, R67, R86: "a read returns the value of the most recent write to the same storage cell (through any alias)"; of an MBC2
cell the low nibble, under ones (R102). -/
def Obligations.ReadBack : Prop :=
  ∀ (s : State) (A a : Addr) (v : Byte) (c : Cell), cellOf s A = some c → cellOf s a = some c →
    peek (write8 A v s) a =
      (match c with
        | .xram _ => if halfByteRam s.mapper = true then 0xF0 ||| (v &&& 0x0F) else v
        | _ => v)

/-- 20_memory.md R80: a write of page `b` to the DMA register stores `b` and leaves in OAM the 160 bytes that the page showed, for every
source byte that is no peripheral's and not the DMA register itself; nothing outside OAM changes. -/
def Obligations.DmaCopy : Prop :=
  ∀ (s : State) (b : Byte), s.cfg.wf = true →
    let t := write8 s.cfg.dmaAddr b s
    t.dma = b ∧
    (∀ i, i < 160 → isPort s (BitVec.ofNat 16 (b.toNat * 0x100 + i)) = false → BitVec.ofNat 16 (b.toNat * 0x100 + i) ≠ s.cfg.dmaAddr →
      peek t (BitVec.ofNat 16 (0xFE00 + i)) = peek s (BitVec.ofNat 16 (b.toNat * 0x100 + i))) ∧
    (∀ a, isPort s a = false → a ≠ s.cfg.dmaAddr → ¬ (0xFE00 ≤ a.toNat ∧ a.toNat < 0xFEA0) → peek t a = peek s a) ∧
    t.regs = s.regs ∧ t.ime = s.ime ∧ t.imePending = s.imePending ∧ t.halted = s.halted ∧ t.cycles = s.cycles

/-! ### The cartridge -/

/-- 20_memory.md R89 to R93: a short image is refused; otherwise the header selects the mapper, the bank count and the RAM size, with an
anomaly for each unknown code. -/
def Obligations.LoadCartridge : Prop :=
  ∀ (image : List Byte),
    (image.length < 0x150 → loadCartridge image = .error .tooSmall) ∧
    (0x150 ≤ image.length →
      let code := image.getD 0x147 0
      let size := image.getD 0x148 0
      let ram := image.getD 0x149 0
      ∃ cfg anomalies, loadCartridge image = .ok (cfg, anomalies) ∧
        cfg.rom.size = image.length ∧ (∀ i (h : i < image.length), romByte cfg.rom i = image[i]) ∧
        (code ∈ [0x00#8, 0x08, 0x09] → cfg.mapper = .unbanked) ∧
        (code ∈ [0x01#8, 0x02, 0x03] → cfg.mapper = .mbc1) ∧
        (code ∈ [0x05#8, 0x06] → cfg.mapper = .mbc2 ∧ cfg.xramSize = 512) ∧
        (code ∈ [0x0F#8, 0x10, 0x11, 0x12, 0x13] → cfg.mapper = .mbc3) ∧
        (code ∈ [0x15#8, 0x16, 0x17] → cfg.mapper = .mbc4) ∧
        (code ∈ [0x19#8, 0x1A, 0x1B, 0x1C, 0x1D, 0x1E] → cfg.mapper = .mbc5) ∧
        ((cfg.mapper = .unknown ↔ .unknownMapperCode code ∈ anomalies) ∧
          (cfg.mapper = .unknown ↔
            code ∉ [0x00#8, 0x08, 0x09, 0x01, 0x02, 0x03, 0x05, 0x06, 0x0F, 0x10, 0x11, 0x12, 0x13, 0x15, 0x16, 0x17, 0x19, 0x1A, 0x1B,
              0x1C, 0x1D, 0x1E])) ∧
        (size.toNat ≤ 8 → cfg.romBanks = 2 * 2 ^ size.toNat) ∧
        (size = 0x52 → cfg.romBanks = 72) ∧ (size = 0x53 → cfg.romBanks = 80) ∧ (size = 0x54 → cfg.romBanks = 96) ∧
        (8 < size.toNat → size ∉ [0x52#8, 0x53, 0x54] → cfg.romBanks = 2 ∧ .unknownSizeCode 0x148 size ∈ anomalies) ∧
        (cfg.mapper ≠ .mbc2 → ram.toNat ≤ 5 →
          cfg.xramSize = [0, 2048, 8192, 32768, 131072, 65536].getD ram.toNat 0) ∧
        (5 < ram.toNat → .unknownSizeCode 0x149 ram ∈ anomalies) ∧ (cfg.mapper ≠ .mbc2 → 5 < ram.toNat → cfg.xramSize = 0) ∧
        (cfg.mapper ≠ .unknown → size.toNat ≤ 8 → ram.toNat ≤ 5 → anomalies = []))

/-- 20_memory.md R95, R96: without a banking chip (also MBC4 and unknown codes) ROM is indexed directly and bounds checked, ROM-window writes
are ignored, external RAM has no gate and is bounds checked. -/
def Obligations.UnbankedCartridge : Prop :=
  ∀ (s : State) (a : Addr) (v : Byte), s.mapper = .unbanked →
    let i := a.toNat - 0xA000
    (a.toNat < 0x8000 → read8 a s = (romByte s.cfg.rom a.toNat, s) ∧ write8 a v s = s) ∧
    (a.toNat < 0x8000 → s.cfg.rom.size ≤ a.toNat → read8 a s = (0xFF, s)) ∧
    (0xA000 ≤ a.toNat → a.toNat < 0xC000 → i < s.cfg.xramSize →
      read8 a s = (ramByte .xram s.xram i, s) ∧ write8 a v s = { s with xram := Memory.set s.xram i v }) ∧
    (0xA000 ≤ a.toNat → a.toNat < 0xC000 → s.cfg.xramSize ≤ i → read8 a s = (0xFF, s) ∧ write8 a v s = s)

/-- 20_memory.md R100, with the helpers of R97 written out. -/
def Obligations.Mbc1Cartridge : Prop :=
  ∀ (s : State) (r : Mbc1) (a : Addr) (v : Byte), s.mapper = .mbc1 r →
    let n := a.toNat
    let rom (bank off : Nat) : Byte := romByte s.cfg.rom (bank % s.cfg.romBanks * 0x4000 + off)
    let i := (if r.mode = 1 then r.bank2.toNat else 0) * 0x2000 + (n - 0xA000)
    (n < 0x2000 → write8 a v s = { s with mapper := .mbc1 { r with ramEn := decide (v.toNat % 16 = 0x0A) } }) ∧
    (0x2000 ≤ n → n < 0x4000 →
      write8 a v s =
        { s with mapper := .mbc1 { r with bank1 := if v.toNat % 32 = 0 then 1 else BitVec.ofNat 5 (v.toNat % 32) } }) ∧
    (0x4000 ≤ n → n < 0x6000 → write8 a v s = { s with mapper := .mbc1 { r with bank2 := BitVec.ofNat 2 (v.toNat % 4) } }) ∧
    (0x6000 ≤ n → n < 0x8000 → write8 a v s = { s with mapper := .mbc1 { r with mode := BitVec.ofNat 1 (v.toNat % 2) } }) ∧
    (n < 0x4000 → read8 a s = (rom (if r.mode = 1 then r.bank2.toNat * 32 else 0) n, s)) ∧
    (0x4000 ≤ n → n < 0x8000 → read8 a s = (rom (r.bank2.toNat * 32 + r.bank1.toNat) (n - 0x4000), s)) ∧
    (0xA000 ≤ n → n < 0xC000 →
      (r.ramEn = true ∧ i < s.cfg.xramSize →
        read8 a s = (ramByte .xram s.xram i, s) ∧ write8 a v s = { s with xram := Memory.set s.xram i v }) ∧
      (¬ (r.ramEn = true ∧ i < s.cfg.xramSize) → read8 a s = (0xFF, s) ∧ write8 a v s = s))

/-- 20_memory.md R102, with the helpers of R97 written out. -/
def Obligations.Mbc2Cartridge : Prop :=
  ∀ (s : State) (r : Mbc2) (a : Addr) (v : Byte), s.mapper = .mbc2 r →
    let n := a.toNat
    let rom (bank off : Nat) : Byte := romByte s.cfg.rom (bank % s.cfg.romBanks * 0x4000 + off)
    let i := (n - 0xA000) % 512
    (n < 0x4000 → n / 256 % 2 = 0 →
      write8 a v s = { s with mapper := .mbc2 { r with ramEn := decide (v.toNat % 16 = 0x0A) } }) ∧
    (n < 0x4000 → n / 256 % 2 = 1 →
      write8 a v s =
        { s with mapper := .mbc2 { r with romBank := if v.toNat % 16 = 0 then 1 else BitVec.ofNat 4 (v.toNat % 16) } }) ∧
    (0x4000 ≤ n → n < 0x8000 → write8 a v s = s) ∧
    (n < 0x4000 → read8 a s = (rom 0 n, s)) ∧
    (0x4000 ≤ n → n < 0x8000 → read8 a s = (rom r.romBank.toNat (n - 0x4000), s)) ∧
    (0xA000 ≤ n → n < 0xC000 → r.ramEn = true →
      read8 a s = (0xF0 ||| (ramByte .xram s.xram i &&& 0x0F), s) ∧ write8 a v s = { s with xram := Memory.set s.xram i (v &&& 0x0F) }) ∧
    (0xA000 ≤ n → n < 0xC000 → r.ramEn = false → read8 a s = (0xFF, s) ∧ write8 a v s = s)

/-- 20_memory.md R104, with the helpers of R97 written out. -/
def Obligations.Mbc3Cartridge : Prop :=
  ∀ (s : State) (r : Mbc3) (a : Addr) (v : Byte), s.mapper = .mbc3 r →
    let n := a.toNat
    let rom (bank off : Nat) : Byte := romByte s.cfg.rom (bank % s.cfg.romBanks * 0x4000 + off)
    let i := r.sel.toNat * 0x2000 + (n - 0xA000)
    (n < 0x2000 → write8 a v s = { s with mapper := .mbc3 { r with ramEn := decide (v.toNat % 16 = 0x0A) } }) ∧
    (0x2000 ≤ n → n < 0x4000 →
      write8 a v s =
        { s with mapper := .mbc3 { r with romBank := if v.toNat % 128 = 0 then 1 else BitVec.ofNat 7 (v.toNat % 128) } }) ∧
    (0x4000 ≤ n → n < 0x6000 → write8 a v s = { s with mapper := .mbc3 { r with sel := BitVec.ofNat 4 (v.toNat % 16) } }) ∧
    (0x6000 ≤ n → n < 0x8000 → write8 a v s = s) ∧
    (n < 0x4000 → read8 a s = (rom 0 n, s)) ∧
    (0x4000 ≤ n → n < 0x8000 → read8 a s = (rom r.romBank.toNat (n - 0x4000), s)) ∧
    (0xA000 ≤ n → n < 0xC000 →
      (r.ramEn = true ∧ r.sel.toNat ≤ 3 ∧ i < s.cfg.xramSize →
        read8 a s = (ramByte .xram s.xram i, s) ∧ write8 a v s = { s with xram := Memory.set s.xram i v }) ∧
      (¬ (r.ramEn = true ∧ r.sel.toNat ≤ 3 ∧ i < s.cfg.xramSize) → read8 a s = (0xFF, s) ∧ write8 a v s = s))

/-- 20_memory.md R106, with the helpers of R97 written out. -/
def Obligations.Mbc5Cartridge : Prop :=
  ∀ (s : State) (r : Mbc5) (a : Addr) (v : Byte), s.mapper = .mbc5 r →
    let n := a.toNat
    let rom (bank off : Nat) : Byte := romByte s.cfg.rom (bank % s.cfg.romBanks * 0x4000 + off)
    let i := r.ramBank.toNat * 0x2000 + (n - 0xA000)
    let bank := r.romBank.toNat
    (n < 0x2000 → write8 a v s = { s with mapper := .mbc5 { r with ramEn := decide (v.toNat % 16 = 0x0A) } }) ∧
    (0x2000 ≤ n → n < 0x3000 →
      write8 a v s = { s with mapper := .mbc5 { r with romBank := BitVec.ofNat 9 (bank / 256 * 256 + v.toNat) } }) ∧
    (0x3000 ≤ n → n < 0x4000 →
      write8 a v s = { s with mapper := .mbc5 { r with romBank := BitVec.ofNat 9 (v.toNat % 2 * 256 + bank % 256) } }) ∧
    (0x4000 ≤ n → n < 0x6000 → write8 a v s = { s with mapper := .mbc5 { r with ramBank := BitVec.ofNat 4 (v.toNat % 16) } }) ∧
    (0x6000 ≤ n → n < 0x8000 → write8 a v s = s) ∧
    (n < 0x4000 → read8 a s = (rom 0 n, s)) ∧
    (0x4000 ≤ n → n < 0x8000 → read8 a s = (rom bank (n - 0x4000), s)) ∧
    (0xA000 ≤ n → n < 0xC000 →
      (r.ramEn = true ∧ i < s.cfg.xramSize →
        read8 a s = (ramByte .xram s.xram i, s) ∧ write8 a v s = { s with xram := Memory.set s.xram i v }) ∧
      (¬ (r.ramEn = true ∧ i < s.cfg.xramSize) → read8 a s = (0xFF, s) ∧ write8 a v s = s))
end

