-- ==== Sys2Proof/Laws/Bits.lean ====
section
/-! SUPPORT. Laws of the byte-order helpers and of the flag byte. -/

namespace Sys2Proof.Machine

theorem toNat_mk16 (high low : Byte) : (mk16 high low).toNat = high.toNat * 256 + low.toNat := by
  have := low.isLt
  simp only [mk16, BitVec.toNat_append]
  rw [Nat.shiftLeft_eq, Nat.mul_comm, ← Nat.two_pow_add_eq_or_of_lt (by omega)]

theorem toNat_hi8 (w : Addr) : (hi8 w).toNat = w.toNat / 256 := by
  have := w.isLt
  simp only [hi8, BitVec.extractLsb'_toNat, Nat.shiftRight_eq_div_pow]
  omega

theorem toNat_lo8 (w : Addr) : (lo8 w).toNat = w.toNat % 256 := by
  simp [lo8]

@[simp] theorem hi8_mk16 (high low : Byte) : hi8 (mk16 high low) = high := by
  have := low.isLt
  apply BitVec.eq_of_toNat_eq
  rw [toNat_hi8, toNat_mk16]
  omega

@[simp] theorem lo8_mk16 (high low : Byte) : lo8 (mk16 high low) = low := by
  have := low.isLt
  apply BitVec.eq_of_toNat_eq
  rw [toNat_lo8, toNat_mk16]
  omega

@[simp] theorem mk16_hi8_lo8 (w : Addr) : mk16 (hi8 w) (lo8 w) = w := by
  apply BitVec.eq_of_toNat_eq
  rw [toNat_mk16, toNat_hi8, toNat_lo8]
  omega

/-- A property of every byte, checked value by value. -/
theorem byte_forall {P : Byte → Prop} (h : ∀ k : Fin 256, P (BitVec.ofFin k)) (v : Byte) : P v := h v.toFin

@[simp] theorem fZ_packF (z n h c : Bool) : fZ (packF z n h c) = z := by
  cases z <;> cases n <;> cases h <;> cases c <;> rfl

@[simp] theorem fN_packF (z n h c : Bool) : fN (packF z n h c) = n := by
  cases z <;> cases n <;> cases h <;> cases c <;> rfl

@[simp] theorem fH_packF (z n h c : Bool) : fH (packF z n h c) = h := by
  cases z <;> cases n <;> cases h <;> cases c <;> rfl

@[simp] theorem fC_packF (z n h c : Bool) : fC (packF z n h c) = c := by
  cases z <;> cases n <;> cases h <;> cases c <;> rfl

@[simp] theorem lowNibble_packF (z n h c : Bool) : lowNibble (packF z n h c) = 0 := by
  cases z <;> cases n <;> cases h <;> cases c <;> rfl

@[simp] theorem maskF_packF (z n h c : Bool) : maskF (packF z n h c) = packF z n h c := by
  cases z <;> cases n <;> cases h <;> cases c <;> rfl

@[simp] theorem lowNibble_maskF (v : Byte) : lowNibble (maskF v) = 0 := by
  revert v; exact byte_forall (by decide +kernel)

/-- A byte with a zero low nibble is unchanged by the mask of `F`. -/
theorem maskF_of_lowNibble (v : Byte) (h : lowNibble v = 0) : maskF v = v := by
  revert v; exact byte_forall (by decide +kernel)

/-- A flag byte is determined by its four flags. -/
theorem packF_of_lowNibble (v : Byte) (h : lowNibble v = 0) : packF (fZ v) (fN v) (fH v) (fC v) = v := by
  revert v; exact byte_forall (by decide +kernel)

theorem lowNibble_eq (v : Byte) : lowNibble v = v.toNat % 16 := by
  revert v; exact byte_forall (by decide +kernel)

end Sys2Proof.Machine
end

