-- ==== Sys2Proof/Laws/Memory.lean ====
section
/-! SUPPORT. Laws of the sparse memory: read after write, and every operation keeps the canonical form. -/

namespace Sys2Proof.Machine

theorem Memory.get_set (m : Memory) (i j : Nat) (v : Byte) :
    Memory.get (Memory.set m i v) j = if j = i then some v else Memory.get m j := by
  induction m with
  | nil => simp [Memory.set, Memory.get]
  | cons c t ih =>
    obtain ⟨k, w⟩ := c
    simp only [Memory.set]
    split
    · simp [Memory.get]
    · split
      · next h => subst h; simp only [Memory.get]; split <;> rfl
      · next h =>
        simp only [Memory.get, ih]
        split
        · next hj => subst hj; simp [Ne.symm h]
        · rfl

@[simp] theorem Memory.get_set_self (m : Memory) (i : Nat) (v : Byte) : Memory.get (Memory.set m i v) i = some v := by
  simp [Memory.get_set]

theorem Memory.get_set_ne (m : Memory) {i j : Nat} (v : Byte) (h : j ≠ i) :
    Memory.get (Memory.set m i v) j = Memory.get m j := by
  simp [Memory.get_set, h]

theorem Memory.risingFrom_mono {lo lo' : Nat} {m : Memory} (h : lo' ≤ lo) (hm : Memory.risingFrom lo m = true) :
    Memory.risingFrom lo' m = true := by
  cases m with
  | nil => rfl
  | cons c t =>
    simp only [Memory.risingFrom, Bool.and_eq_true, decide_eq_true_eq] at hm ⊢
    exact ⟨by omega, hm.2⟩

theorem Memory.risingFrom_set {m : Memory} {lo i : Nat} (v : Byte) (h : lo ≤ i) (hm : Memory.risingFrom lo m = true) :
    Memory.risingFrom lo (Memory.set m i v) = true := by
  induction m generalizing lo with
  | nil => simp [Memory.set, Memory.risingFrom, h]
  | cons c t ih =>
    obtain ⟨k, w⟩ := c
    simp only [Memory.risingFrom, Bool.and_eq_true, decide_eq_true_eq] at hm
    simp only [Memory.set]
    split
    · simp only [Memory.risingFrom, Bool.and_eq_true, decide_eq_true_eq]
      exact ⟨h, by omega, hm.2⟩
    · split
      · next hik => subst hik; simp [Memory.risingFrom, h, hm.2]
      · simp only [Memory.risingFrom, Bool.and_eq_true, decide_eq_true_eq]
        exact ⟨hm.1, ih (by omega) hm.2⟩

/-- Writing keeps the canonical form. -/
theorem Memory.wf_set {m : Memory} (i : Nat) (v : Byte) (h : m.wf = true) : (Memory.set m i v).wf = true :=
  Memory.risingFrom_set v (Nat.zero_le _) h

theorem Memory.all_set {p : Host.Cell → Bool} {m : Memory} {i : Nat} {v : Byte} (hm : m.all p = true) (h : p (i, v) = true) :
    (Memory.set m i v).all p = true := by
  induction m with
  | nil => simp [Memory.set, h]
  | cons c t ih =>
    obtain ⟨k, w⟩ := c
    simp only [List.all_cons, Bool.and_eq_true] at hm
    simp only [Memory.set]
    split
    · simp [h, hm.1, hm.2]
    · split
      · simp [h, hm.2]
      · simp [hm.1, ih hm.2]

/-- Writing inside the array keeps the canonical form within its size. -/
theorem Memory.wfBelow_set {m : Memory} {n i : Nat} (v : Byte) (hi : i < n) (h : Memory.wfBelow n m = true) :
    Memory.wfBelow n (Memory.set m i v) = true := by
  simp only [Memory.wfBelow, Bool.and_eq_true] at h ⊢
  exact ⟨Memory.wf_set i v h.1, Memory.all_set h.2 (by simpa using hi)⟩

/-- Every entry after a write is the one written or an old one. -/
theorem Memory.mem_set {m : Memory} {i : Nat} {v : Byte} {c : Host.Cell} (h : c ∈ Memory.set m i v) : c = (i, v) ∨ c ∈ m := by
  induction m with
  | nil => simpa [Memory.set] using h
  | cons d t ih =>
    obtain ⟨k, w⟩ := d
    simp only [Memory.set] at h
    split at h
    · simpa using h
    · split at h
      · rcases List.mem_cons.1 h with h | h
        · exact .inl h
        · exact .inr (List.mem_cons_of_mem _ h)
      · rcases List.mem_cons.1 h with h | h
        · exact .inr (h ▸ List.mem_cons_self)
        · exact (ih h).imp_right (List.mem_cons_of_mem _)

theorem Memory.risingFrom_erase {m : Memory} {lo : Nat} (i : Nat) (hm : Memory.risingFrom lo m = true) :
    Memory.risingFrom lo (Memory.erase m i) = true := by
  induction m generalizing lo with
  | nil => rfl
  | cons c t ih =>
    obtain ⟨k, w⟩ := c
    simp only [Memory.risingFrom, Bool.and_eq_true, decide_eq_true_eq] at hm
    simp only [Memory.erase]
    split
    · exact Memory.risingFrom_mono (by omega) hm.2
    · simp only [Memory.risingFrom, Bool.and_eq_true, decide_eq_true_eq]
      exact ⟨hm.1, ih hm.2⟩

/-- Erasing keeps the canonical form. -/
theorem Memory.wf_erase {m : Memory} (i : Nat) (h : m.wf = true) : (Memory.erase m i).wf = true :=
  Memory.risingFrom_erase i h

theorem Memory.risingFrom_ofBytes (i : Nat) (l : List Byte) : Memory.risingFrom i (Memory.ofBytes i l) = true := by
  induction l generalizing i with
  | nil => rfl
  | cons b t ih => simp [Memory.ofBytes, Memory.risingFrom, ih (i + 1)]

/-- A list of bytes is laid out in the canonical form. -/
theorem Memory.wf_ofBytes (l : List Byte) : (Memory.ofBytes 0 l).wf = true := Memory.risingFrom_ofBytes 0 l

theorem Memory.lt_of_mem_ofBytes {i : Nat} {l : List Byte} {c : Host.Cell} (h : c ∈ Memory.ofBytes i l) : c.1 < i + l.length := by
  induction l generalizing i with
  | nil => simp [Memory.ofBytes] at h
  | cons b t ih =>
    rcases List.mem_cons.1 h with h | h
    · subst h; simp
    · have := ih h; simp only [List.length_cons]; omega

/-- Two canonical memories that hold the same bytes are the same list: no index below `lo` is listed. -/
theorem Memory.get_of_lt {m : Memory} {lo i : Nat} (hm : Memory.risingFrom lo m = true) (h : i < lo) : Memory.get m i = none := by
  induction m generalizing lo with
  | nil => rfl
  | cons c t ih =>
    obtain ⟨k, w⟩ := c
    simp only [Memory.risingFrom, Bool.and_eq_true, decide_eq_true_eq] at hm
    simp only [Memory.get]
    rw [if_neg (by omega)]
    exact ih hm.2 (by omega)

theorem Memory.ext_from {m m' : Memory} {lo lo' : Nat} (hm : Memory.risingFrom lo m = true) (hm' : Memory.risingFrom lo' m' = true)
    (h : ∀ i, Memory.get m i = Memory.get m' i) : m = m' := by
  induction m generalizing m' lo lo' with
  | nil =>
    cases m' with
    | nil => rfl
    | cons c t => have := h c.1; simp [Memory.get] at this
  | cons c t ih =>
    obtain ⟨k, w⟩ := c
    cases m' with
    | nil => have := h k; simp [Memory.get] at this
    | cons c' t' =>
      obtain ⟨k', w'⟩ := c'
      simp only [Memory.risingFrom, Bool.and_eq_true, decide_eq_true_eq] at hm hm'
      have hk : k = k' := by
        rcases Nat.lt_trichotomy k k' with hlt | heq | hgt
        · have := h k
          simp only [Memory.get, if_pos] at this
          rw [if_neg (by omega), Memory.get_of_lt hm'.2 (by omega)] at this
          cases this
        · exact heq
        · have := h k'
          simp only [Memory.get, if_pos] at this
          rw [if_neg (by omega), Memory.get_of_lt hm.2 (by omega)] at this
          cases this
      subst hk
      have hw : w = w' := by have := h k; simpa [Memory.get] using this
      subst hw
      congr 1
      refine ih hm.2 hm'.2 (fun i => ?_)
      by_cases hi : i = k
      · subst hi; rw [Memory.get_of_lt hm.2 (by omega), Memory.get_of_lt hm'.2 (by omega)]
      · have := h i; simpa [Memory.get, hi] using this

/-- Canonical memories that read alike are equal data. -/
theorem Memory.ext {m m' : Memory} (hm : m.wf = true) (hm' : m'.wf = true) (h : ∀ i, Memory.get m i = Memory.get m' i) : m = m' :=
  Memory.ext_from hm hm' h

end Sys2Proof.Machine
end

