-- ==== Sys2Proof/Laws/State.lean ====
section
/-! SUPPORT. One lemma for each field and update, so that no later proof unfolds an update. -/

namespace Sys2Proof.Machine

/-! ### `set8` -/

@[simp] theorem set8_regs (s : State) (r : Reg8) (v : Byte) : (s.set8 r v).regs = s.regs.set8 r v := rfl
@[simp] theorem set8_ime (s : State) (r : Reg8) (v : Byte) : (s.set8 r v).ime = s.ime := rfl
@[simp] theorem set8_halted (s : State) (r : Reg8) (v : Byte) : (s.set8 r v).halted = s.halted := rfl
@[simp] theorem set8_imePending (s : State) (r : Reg8) (v : Byte) : (s.set8 r v).imePending = s.imePending := rfl
@[simp] theorem set8_ie (s : State) (r : Reg8) (v : Byte) : (s.set8 r v).ie = s.ie := rfl
@[simp] theorem set8_ifr (s : State) (r : Reg8) (v : Byte) : (s.set8 r v).ifr = s.ifr := rfl
@[simp] theorem set8_dma (s : State) (r : Reg8) (v : Byte) : (s.set8 r v).dma = s.dma := rfl
@[simp] theorem set8_wram (s : State) (r : Reg8) (v : Byte) : (s.set8 r v).wram = s.wram := rfl
@[simp] theorem set8_oam (s : State) (r : Reg8) (v : Byte) : (s.set8 r v).oam = s.oam := rfl
@[simp] theorem set8_hram (s : State) (r : Reg8) (v : Byte) : (s.set8 r v).hram = s.hram := rfl
@[simp] theorem set8_xram (s : State) (r : Reg8) (v : Byte) : (s.set8 r v).xram = s.xram := rfl
@[simp] theorem set8_mapper (s : State) (r : Reg8) (v : Byte) : (s.set8 r v).mapper = s.mapper := rfl
@[simp] theorem set8_cfg (s : State) (r : Reg8) (v : Byte) : (s.set8 r v).cfg = s.cfg := rfl
@[simp] theorem set8_cycles (s : State) (r : Reg8) (v : Byte) : (s.set8 r v).cycles = s.cycles := rfl
@[simp] theorem set8_cycleTotal (s : State) (r : Reg8) (v : Byte) : (s.set8 r v).cycleTotal = s.cycleTotal := rfl
@[simp] theorem set8_outcome (s : State) (r : Reg8) (v : Byte) : (s.set8 r v).outcome = s.outcome := rfl
@[simp] theorem set8_anomalies (s : State) (r : Reg8) (v : Byte) : (s.set8 r v).anomalies = s.anomalies := rfl
@[simp] theorem set8_portLog (s : State) (r : Reg8) (v : Byte) : (s.set8 r v).portLog = s.portLog := rfl
@[simp] theorem set8_portReads (s : State) (r : Reg8) (v : Byte) : (s.set8 r v).portReads = s.portReads := rfl
@[simp] theorem set8_irqLines (s : State) (r : Reg8) (v : Byte) : (s.set8 r v).irqLines = s.irqLines := rfl

/-! ### `setRP` -/

@[simp] theorem setRP_regs (s : State) (p : RP) (v : Addr) : (s.setRP p v).regs = s.regs.setRP p v := rfl
@[simp] theorem setRP_ime (s : State) (p : RP) (v : Addr) : (s.setRP p v).ime = s.ime := rfl
@[simp] theorem setRP_halted (s : State) (p : RP) (v : Addr) : (s.setRP p v).halted = s.halted := rfl
@[simp] theorem setRP_imePending (s : State) (p : RP) (v : Addr) : (s.setRP p v).imePending = s.imePending := rfl
@[simp] theorem setRP_ie (s : State) (p : RP) (v : Addr) : (s.setRP p v).ie = s.ie := rfl
@[simp] theorem setRP_ifr (s : State) (p : RP) (v : Addr) : (s.setRP p v).ifr = s.ifr := rfl
@[simp] theorem setRP_dma (s : State) (p : RP) (v : Addr) : (s.setRP p v).dma = s.dma := rfl
@[simp] theorem setRP_wram (s : State) (p : RP) (v : Addr) : (s.setRP p v).wram = s.wram := rfl
@[simp] theorem setRP_oam (s : State) (p : RP) (v : Addr) : (s.setRP p v).oam = s.oam := rfl
@[simp] theorem setRP_hram (s : State) (p : RP) (v : Addr) : (s.setRP p v).hram = s.hram := rfl
@[simp] theorem setRP_xram (s : State) (p : RP) (v : Addr) : (s.setRP p v).xram = s.xram := rfl
@[simp] theorem setRP_mapper (s : State) (p : RP) (v : Addr) : (s.setRP p v).mapper = s.mapper := rfl
@[simp] theorem setRP_cfg (s : State) (p : RP) (v : Addr) : (s.setRP p v).cfg = s.cfg := rfl
@[simp] theorem setRP_cycles (s : State) (p : RP) (v : Addr) : (s.setRP p v).cycles = s.cycles := rfl
@[simp] theorem setRP_cycleTotal (s : State) (p : RP) (v : Addr) : (s.setRP p v).cycleTotal = s.cycleTotal := rfl
@[simp] theorem setRP_outcome (s : State) (p : RP) (v : Addr) : (s.setRP p v).outcome = s.outcome := rfl
@[simp] theorem setRP_anomalies (s : State) (p : RP) (v : Addr) : (s.setRP p v).anomalies = s.anomalies := rfl
@[simp] theorem setRP_portLog (s : State) (p : RP) (v : Addr) : (s.setRP p v).portLog = s.portLog := rfl
@[simp] theorem setRP_portReads (s : State) (p : RP) (v : Addr) : (s.setRP p v).portReads = s.portReads := rfl
@[simp] theorem setRP_irqLines (s : State) (p : RP) (v : Addr) : (s.setRP p v).irqLines = s.irqLines := rfl

/-! ### `setRP2` -/

@[simp] theorem setRP2_regs (s : State) (p : RP2) (v : Addr) : (s.setRP2 p v).regs = s.regs.setRP2 p v := rfl
@[simp] theorem setRP2_ime (s : State) (p : RP2) (v : Addr) : (s.setRP2 p v).ime = s.ime := rfl
@[simp] theorem setRP2_halted (s : State) (p : RP2) (v : Addr) : (s.setRP2 p v).halted = s.halted := rfl
@[simp] theorem setRP2_imePending (s : State) (p : RP2) (v : Addr) : (s.setRP2 p v).imePending = s.imePending := rfl
@[simp] theorem setRP2_ie (s : State) (p : RP2) (v : Addr) : (s.setRP2 p v).ie = s.ie := rfl
@[simp] theorem setRP2_ifr (s : State) (p : RP2) (v : Addr) : (s.setRP2 p v).ifr = s.ifr := rfl
@[simp] theorem setRP2_dma (s : State) (p : RP2) (v : Addr) : (s.setRP2 p v).dma = s.dma := rfl
@[simp] theorem setRP2_wram (s : State) (p : RP2) (v : Addr) : (s.setRP2 p v).wram = s.wram := rfl
@[simp] theorem setRP2_oam (s : State) (p : RP2) (v : Addr) : (s.setRP2 p v).oam = s.oam := rfl
@[simp] theorem setRP2_hram (s : State) (p : RP2) (v : Addr) : (s.setRP2 p v).hram = s.hram := rfl
@[simp] theorem setRP2_xram (s : State) (p : RP2) (v : Addr) : (s.setRP2 p v).xram = s.xram := rfl
@[simp] theorem setRP2_mapper (s : State) (p : RP2) (v : Addr) : (s.setRP2 p v).mapper = s.mapper := rfl
@[simp] theorem setRP2_cfg (s : State) (p : RP2) (v : Addr) : (s.setRP2 p v).cfg = s.cfg := rfl
@[simp] theorem setRP2_cycles (s : State) (p : RP2) (v : Addr) : (s.setRP2 p v).cycles = s.cycles := rfl
@[simp] theorem setRP2_cycleTotal (s : State) (p : RP2) (v : Addr) : (s.setRP2 p v).cycleTotal = s.cycleTotal := rfl
@[simp] theorem setRP2_outcome (s : State) (p : RP2) (v : Addr) : (s.setRP2 p v).outcome = s.outcome := rfl
@[simp] theorem setRP2_anomalies (s : State) (p : RP2) (v : Addr) : (s.setRP2 p v).anomalies = s.anomalies := rfl
@[simp] theorem setRP2_portLog (s : State) (p : RP2) (v : Addr) : (s.setRP2 p v).portLog = s.portLog := rfl
@[simp] theorem setRP2_portReads (s : State) (p : RP2) (v : Addr) : (s.setRP2 p v).portReads = s.portReads := rfl
@[simp] theorem setRP2_irqLines (s : State) (p : RP2) (v : Addr) : (s.setRP2 p v).irqLines = s.irqLines := rfl

/-! ### `setF` -/

@[simp] theorem setF_regs (s : State) (v : Byte) : (s.setF v).regs = { s.regs with f := maskF v } := rfl
@[simp] theorem setF_ime (s : State) (v : Byte) : (s.setF v).ime = s.ime := rfl
@[simp] theorem setF_halted (s : State) (v : Byte) : (s.setF v).halted = s.halted := rfl
@[simp] theorem setF_imePending (s : State) (v : Byte) : (s.setF v).imePending = s.imePending := rfl
@[simp] theorem setF_ie (s : State) (v : Byte) : (s.setF v).ie = s.ie := rfl
@[simp] theorem setF_ifr (s : State) (v : Byte) : (s.setF v).ifr = s.ifr := rfl
@[simp] theorem setF_dma (s : State) (v : Byte) : (s.setF v).dma = s.dma := rfl
@[simp] theorem setF_wram (s : State) (v : Byte) : (s.setF v).wram = s.wram := rfl
@[simp] theorem setF_oam (s : State) (v : Byte) : (s.setF v).oam = s.oam := rfl
@[simp] theorem setF_hram (s : State) (v : Byte) : (s.setF v).hram = s.hram := rfl
@[simp] theorem setF_xram (s : State) (v : Byte) : (s.setF v).xram = s.xram := rfl
@[simp] theorem setF_mapper (s : State) (v : Byte) : (s.setF v).mapper = s.mapper := rfl
@[simp] theorem setF_cfg (s : State) (v : Byte) : (s.setF v).cfg = s.cfg := rfl
@[simp] theorem setF_cycles (s : State) (v : Byte) : (s.setF v).cycles = s.cycles := rfl
@[simp] theorem setF_cycleTotal (s : State) (v : Byte) : (s.setF v).cycleTotal = s.cycleTotal := rfl
@[simp] theorem setF_outcome (s : State) (v : Byte) : (s.setF v).outcome = s.outcome := rfl
@[simp] theorem setF_anomalies (s : State) (v : Byte) : (s.setF v).anomalies = s.anomalies := rfl
@[simp] theorem setF_portLog (s : State) (v : Byte) : (s.setF v).portLog = s.portLog := rfl
@[simp] theorem setF_portReads (s : State) (v : Byte) : (s.setF v).portReads = s.portReads := rfl
@[simp] theorem setF_irqLines (s : State) (v : Byte) : (s.setF v).irqLines = s.irqLines := rfl

/-! ### `setPC` -/

@[simp] theorem setPC_regs (s : State) (v : Addr) : (s.setPC v).regs = { s.regs with pc := v } := rfl
@[simp] theorem setPC_ime (s : State) (v : Addr) : (s.setPC v).ime = s.ime := rfl
@[simp] theorem setPC_halted (s : State) (v : Addr) : (s.setPC v).halted = s.halted := rfl
@[simp] theorem setPC_imePending (s : State) (v : Addr) : (s.setPC v).imePending = s.imePending := rfl
@[simp] theorem setPC_ie (s : State) (v : Addr) : (s.setPC v).ie = s.ie := rfl
@[simp] theorem setPC_ifr (s : State) (v : Addr) : (s.setPC v).ifr = s.ifr := rfl
@[simp] theorem setPC_dma (s : State) (v : Addr) : (s.setPC v).dma = s.dma := rfl
@[simp] theorem setPC_wram (s : State) (v : Addr) : (s.setPC v).wram = s.wram := rfl
@[simp] theorem setPC_oam (s : State) (v : Addr) : (s.setPC v).oam = s.oam := rfl
@[simp] theorem setPC_hram (s : State) (v : Addr) : (s.setPC v).hram = s.hram := rfl
@[simp] theorem setPC_xram (s : State) (v : Addr) : (s.setPC v).xram = s.xram := rfl
@[simp] theorem setPC_mapper (s : State) (v : Addr) : (s.setPC v).mapper = s.mapper := rfl
@[simp] theorem setPC_cfg (s : State) (v : Addr) : (s.setPC v).cfg = s.cfg := rfl
@[simp] theorem setPC_cycles (s : State) (v : Addr) : (s.setPC v).cycles = s.cycles := rfl
@[simp] theorem setPC_cycleTotal (s : State) (v : Addr) : (s.setPC v).cycleTotal = s.cycleTotal := rfl
@[simp] theorem setPC_outcome (s : State) (v : Addr) : (s.setPC v).outcome = s.outcome := rfl
@[simp] theorem setPC_anomalies (s : State) (v : Addr) : (s.setPC v).anomalies = s.anomalies := rfl
@[simp] theorem setPC_portLog (s : State) (v : Addr) : (s.setPC v).portLog = s.portLog := rfl
@[simp] theorem setPC_portReads (s : State) (v : Addr) : (s.setPC v).portReads = s.portReads := rfl
@[simp] theorem setPC_irqLines (s : State) (v : Addr) : (s.setPC v).irqLines = s.irqLines := rfl

/-! ### `setSP` -/

@[simp] theorem setSP_regs (s : State) (v : Addr) : (s.setSP v).regs = { s.regs with sp := v } := rfl
@[simp] theorem setSP_ime (s : State) (v : Addr) : (s.setSP v).ime = s.ime := rfl
@[simp] theorem setSP_halted (s : State) (v : Addr) : (s.setSP v).halted = s.halted := rfl
@[simp] theorem setSP_imePending (s : State) (v : Addr) : (s.setSP v).imePending = s.imePending := rfl
@[simp] theorem setSP_ie (s : State) (v : Addr) : (s.setSP v).ie = s.ie := rfl
@[simp] theorem setSP_ifr (s : State) (v : Addr) : (s.setSP v).ifr = s.ifr := rfl
@[simp] theorem setSP_dma (s : State) (v : Addr) : (s.setSP v).dma = s.dma := rfl
@[simp] theorem setSP_wram (s : State) (v : Addr) : (s.setSP v).wram = s.wram := rfl
@[simp] theorem setSP_oam (s : State) (v : Addr) : (s.setSP v).oam = s.oam := rfl
@[simp] theorem setSP_hram (s : State) (v : Addr) : (s.setSP v).hram = s.hram := rfl
@[simp] theorem setSP_xram (s : State) (v : Addr) : (s.setSP v).xram = s.xram := rfl
@[simp] theorem setSP_mapper (s : State) (v : Addr) : (s.setSP v).mapper = s.mapper := rfl
@[simp] theorem setSP_cfg (s : State) (v : Addr) : (s.setSP v).cfg = s.cfg := rfl
@[simp] theorem setSP_cycles (s : State) (v : Addr) : (s.setSP v).cycles = s.cycles := rfl
@[simp] theorem setSP_cycleTotal (s : State) (v : Addr) : (s.setSP v).cycleTotal = s.cycleTotal := rfl
@[simp] theorem setSP_outcome (s : State) (v : Addr) : (s.setSP v).outcome = s.outcome := rfl
@[simp] theorem setSP_anomalies (s : State) (v : Addr) : (s.setSP v).anomalies = s.anomalies := rfl
@[simp] theorem setSP_portLog (s : State) (v : Addr) : (s.setSP v).portLog = s.portLog := rfl
@[simp] theorem setSP_portReads (s : State) (v : Addr) : (s.setSP v).portReads = s.portReads := rfl
@[simp] theorem setSP_irqLines (s : State) (v : Addr) : (s.setSP v).irqLines = s.irqLines := rfl

/-! ### `charge` -/

@[simp] theorem charge_regs (s : State) (k : Nat) (t : Bool) : (charge k t s).regs = s.regs := rfl
@[simp] theorem charge_ime (s : State) (k : Nat) (t : Bool) : (charge k t s).ime = s.ime := rfl
@[simp] theorem charge_halted (s : State) (k : Nat) (t : Bool) : (charge k t s).halted = s.halted := rfl
@[simp] theorem charge_imePending (s : State) (k : Nat) (t : Bool) : (charge k t s).imePending = s.imePending := rfl
@[simp] theorem charge_ie (s : State) (k : Nat) (t : Bool) : (charge k t s).ie = s.ie := rfl
@[simp] theorem charge_ifr (s : State) (k : Nat) (t : Bool) : (charge k t s).ifr = s.ifr := rfl
@[simp] theorem charge_dma (s : State) (k : Nat) (t : Bool) : (charge k t s).dma = s.dma := rfl
@[simp] theorem charge_wram (s : State) (k : Nat) (t : Bool) : (charge k t s).wram = s.wram := rfl
@[simp] theorem charge_oam (s : State) (k : Nat) (t : Bool) : (charge k t s).oam = s.oam := rfl
@[simp] theorem charge_hram (s : State) (k : Nat) (t : Bool) : (charge k t s).hram = s.hram := rfl
@[simp] theorem charge_xram (s : State) (k : Nat) (t : Bool) : (charge k t s).xram = s.xram := rfl
@[simp] theorem charge_mapper (s : State) (k : Nat) (t : Bool) : (charge k t s).mapper = s.mapper := rfl
@[simp] theorem charge_cfg (s : State) (k : Nat) (t : Bool) : (charge k t s).cfg = s.cfg := rfl
@[simp] theorem charge_cycleTotal (s : State) (k : Nat) (t : Bool) : (charge k t s).cycleTotal = s.cycleTotal := rfl
@[simp] theorem charge_outcome (s : State) (k : Nat) (t : Bool) : (charge k t s).outcome = s.outcome := rfl
@[simp] theorem charge_anomalies (s : State) (k : Nat) (t : Bool) : (charge k t s).anomalies = s.anomalies := rfl
@[simp] theorem charge_portLog (s : State) (k : Nat) (t : Bool) : (charge k t s).portLog = s.portLog := rfl
@[simp] theorem charge_portReads (s : State) (k : Nat) (t : Bool) : (charge k t s).portReads = s.portReads := rfl
@[simp] theorem charge_irqLines (s : State) (k : Nat) (t : Bool) : (charge k t s).irqLines = s.irqLines := rfl

/-! ### `emit` -/

@[simp] theorem emit_regs (s : State) (x : Anomaly) : (emit x s).regs = s.regs := rfl
@[simp] theorem emit_ime (s : State) (x : Anomaly) : (emit x s).ime = s.ime := rfl
@[simp] theorem emit_halted (s : State) (x : Anomaly) : (emit x s).halted = s.halted := rfl
@[simp] theorem emit_imePending (s : State) (x : Anomaly) : (emit x s).imePending = s.imePending := rfl
@[simp] theorem emit_ie (s : State) (x : Anomaly) : (emit x s).ie = s.ie := rfl
@[simp] theorem emit_ifr (s : State) (x : Anomaly) : (emit x s).ifr = s.ifr := rfl
@[simp] theorem emit_dma (s : State) (x : Anomaly) : (emit x s).dma = s.dma := rfl
@[simp] theorem emit_wram (s : State) (x : Anomaly) : (emit x s).wram = s.wram := rfl
@[simp] theorem emit_oam (s : State) (x : Anomaly) : (emit x s).oam = s.oam := rfl
@[simp] theorem emit_hram (s : State) (x : Anomaly) : (emit x s).hram = s.hram := rfl
@[simp] theorem emit_xram (s : State) (x : Anomaly) : (emit x s).xram = s.xram := rfl
@[simp] theorem emit_mapper (s : State) (x : Anomaly) : (emit x s).mapper = s.mapper := rfl
@[simp] theorem emit_cfg (s : State) (x : Anomaly) : (emit x s).cfg = s.cfg := rfl
@[simp] theorem emit_cycles (s : State) (x : Anomaly) : (emit x s).cycles = s.cycles := rfl
@[simp] theorem emit_cycleTotal (s : State) (x : Anomaly) : (emit x s).cycleTotal = s.cycleTotal := rfl
@[simp] theorem emit_outcome (s : State) (x : Anomaly) : (emit x s).outcome = s.outcome := rfl
@[simp] theorem emit_portLog (s : State) (x : Anomaly) : (emit x s).portLog = s.portLog := rfl
@[simp] theorem emit_portReads (s : State) (x : Anomaly) : (emit x s).portReads = s.portReads := rfl
@[simp] theorem emit_irqLines (s : State) (x : Anomaly) : (emit x s).irqLines = s.irqLines := rfl

/-! ### `logPort` -/

@[simp] theorem logPort_regs (s : State) (x : PortEvent) : (logPort x s).regs = s.regs := rfl
@[simp] theorem logPort_ime (s : State) (x : PortEvent) : (logPort x s).ime = s.ime := rfl
@[simp] theorem logPort_halted (s : State) (x : PortEvent) : (logPort x s).halted = s.halted := rfl
@[simp] theorem logPort_imePending (s : State) (x : PortEvent) : (logPort x s).imePending = s.imePending := rfl
@[simp] theorem logPort_ie (s : State) (x : PortEvent) : (logPort x s).ie = s.ie := rfl
@[simp] theorem logPort_ifr (s : State) (x : PortEvent) : (logPort x s).ifr = s.ifr := rfl
@[simp] theorem logPort_dma (s : State) (x : PortEvent) : (logPort x s).dma = s.dma := rfl
@[simp] theorem logPort_wram (s : State) (x : PortEvent) : (logPort x s).wram = s.wram := rfl
@[simp] theorem logPort_oam (s : State) (x : PortEvent) : (logPort x s).oam = s.oam := rfl
@[simp] theorem logPort_hram (s : State) (x : PortEvent) : (logPort x s).hram = s.hram := rfl
@[simp] theorem logPort_xram (s : State) (x : PortEvent) : (logPort x s).xram = s.xram := rfl
@[simp] theorem logPort_mapper (s : State) (x : PortEvent) : (logPort x s).mapper = s.mapper := rfl
@[simp] theorem logPort_cfg (s : State) (x : PortEvent) : (logPort x s).cfg = s.cfg := rfl
@[simp] theorem logPort_cycles (s : State) (x : PortEvent) : (logPort x s).cycles = s.cycles := rfl
@[simp] theorem logPort_cycleTotal (s : State) (x : PortEvent) : (logPort x s).cycleTotal = s.cycleTotal := rfl
@[simp] theorem logPort_outcome (s : State) (x : PortEvent) : (logPort x s).outcome = s.outcome := rfl
@[simp] theorem logPort_anomalies (s : State) (x : PortEvent) : (logPort x s).anomalies = s.anomalies := rfl
@[simp] theorem logPort_portReads (s : State) (x : PortEvent) : (logPort x s).portReads = s.portReads := rfl
@[simp] theorem logPort_irqLines (s : State) (x : PortEvent) : (logPort x s).irqLines = s.irqLines := rfl

@[simp] theorem emit_anomalies (s : State) (x : Anomaly) : (emit x s).anomalies = s.anomalies ++ [x] := rfl

@[simp] theorem logPort_portLog (s : State) (x : PortEvent) : (logPort x s).portLog = s.portLog ++ [x] := rfl

/-! ### The register file -/

@[simp] theorem regSet8_f (g : RegFile) (r : Reg8) (v : Byte) : (g.set8 r v).f = g.f := by cases r <;> rfl
@[simp] theorem regSet8_sp (g : RegFile) (r : Reg8) (v : Byte) : (g.set8 r v).sp = g.sp := by cases r <;> rfl
@[simp] theorem regSet8_pc (g : RegFile) (r : Reg8) (v : Byte) : (g.set8 r v).pc = g.pc := by cases r <;> rfl
@[simp] theorem regSetRP_a (g : RegFile) (p : RP) (v : Addr) : (g.setRP p v).a = g.a := by cases p <;> rfl
@[simp] theorem regSetRP_f (g : RegFile) (p : RP) (v : Addr) : (g.setRP p v).f = g.f := by cases p <;> rfl
@[simp] theorem regSetRP_pc (g : RegFile) (p : RP) (v : Addr) : (g.setRP p v).pc = g.pc := by cases p <;> rfl
@[simp] theorem regSetRP2_sp (g : RegFile) (p : RP2) (v : Addr) : (g.setRP2 p v).sp = g.sp := by cases p <;> rfl
@[simp] theorem regSetRP2_pc (g : RegFile) (p : RP2) (v : Addr) : (g.setRP2 p v).pc = g.pc := by cases p <;> rfl

/-- A register reads as what was last written to it; the other six are unchanged. -/
theorem get8_set8 (s : State) (r r' : Reg8) (v : Byte) : (s.set8 r v).get8 r' = if r' = r then v else s.get8 r' := by
  cases r <;> cases r' <;> rfl

@[simp] theorem get8_set8_self (s : State) (r : Reg8) (v : Byte) : (s.set8 r v).get8 r = v := by cases r <;> rfl

/-- A pair reads as what was last written to it (10_state.md R22). -/
@[simp] theorem getRP_setRP_self (s : State) (p : RP) (v : Addr) : (s.setRP p v).getRP p = v := by
  cases p <;> simp [State.getRP, State.setRP, RegFile.setRP, State.bc, State.de, State.hl]

/-- The flag byte that a pair write leaves: masked for `AF`, unchanged for the others. -/
theorem lowNibble_setRP2 (g : RegFile) (p : RP2) (v : Addr) (h : lowNibble g.f = 0) : lowNibble (g.setRP2 p v).f = 0 := by
  cases p <;> simp [RegFile.setRP2, h]

/-! ### `sumCycles` -/

@[simp] theorem sumCycles_regs (s : State) : (sumCycles s).regs = s.regs := rfl
@[simp] theorem sumCycles_cycleTotal (s : State) : (sumCycles s).cycleTotal = s.cycleTotal + s.cycles := rfl
@[simp] theorem sumCycles_ime (s : State) : (sumCycles s).ime = s.ime := rfl
@[simp] theorem sumCycles_halted (s : State) : (sumCycles s).halted = s.halted := rfl
@[simp] theorem sumCycles_imePending (s : State) : (sumCycles s).imePending = s.imePending := rfl
@[simp] theorem sumCycles_ie (s : State) : (sumCycles s).ie = s.ie := rfl
@[simp] theorem sumCycles_ifr (s : State) : (sumCycles s).ifr = s.ifr := rfl
@[simp] theorem sumCycles_dma (s : State) : (sumCycles s).dma = s.dma := rfl
@[simp] theorem sumCycles_wram (s : State) : (sumCycles s).wram = s.wram := rfl
@[simp] theorem sumCycles_oam (s : State) : (sumCycles s).oam = s.oam := rfl
@[simp] theorem sumCycles_hram (s : State) : (sumCycles s).hram = s.hram := rfl
@[simp] theorem sumCycles_xram (s : State) : (sumCycles s).xram = s.xram := rfl
@[simp] theorem sumCycles_mapper (s : State) : (sumCycles s).mapper = s.mapper := rfl
@[simp] theorem sumCycles_cfg (s : State) : (sumCycles s).cfg = s.cfg := rfl
@[simp] theorem sumCycles_cycles (s : State) : (sumCycles s).cycles = s.cycles := rfl
@[simp] theorem sumCycles_outcome (s : State) : (sumCycles s).outcome = s.outcome := rfl
@[simp] theorem sumCycles_anomalies (s : State) : (sumCycles s).anomalies = s.anomalies := rfl
@[simp] theorem sumCycles_portLog (s : State) : (sumCycles s).portLog = s.portLog := rfl
@[simp] theorem sumCycles_portReads (s : State) : (sumCycles s).portReads = s.portReads := rfl
@[simp] theorem sumCycles_irqLines (s : State) : (sumCycles s).irqLines = s.irqLines := rfl

@[simp] theorem tally_next (s : State) : tally (.next s) = .next (sumCycles s) := rfl

/-- The state after a charge, written out. -/
theorem charge_eq (k : Nat) (t : Bool) (s : State) :
    charge k t s = { s with cycles := if t then (cycleCost s.cfg k).2 else (cycleCost s.cfg k).1 } := rfl

end Sys2Proof.Machine
end

