-- ==== Sys2Proof/Laws/Ops.lean ====
section
/-! SUPPORT. What each shared operation can do, said once: reads change only the diagnostic streams and the free-value counter, writes
change only the storage behind the region decoder, and every operation keeps the well-formed storage of `Inv`. -/

namespace Sys2Proof.Machine

/-! ### Where the indices of the region decoder lie -/

/-- The bounds of each region (20_memory.md R61): first address, first address past it. -/
def Region.bounds : Region → Nat × Nat
  | .rom => (0, 0x8000)
  | .vram => (0x8000, 0xA000)
  | .xram => (0xA000, 0xC000)
  | .wram => (0xC000, 0xE000)
  | .mirror => (0xE000, 0xFE00)
  | .oam => (0xFE00, 0xFEA0)
  | .unusable => (0xFEA0, 0xFF00)
  | .io => (0xFF00, 0xFF80)
  | .hram => (0xFF80, 0xFFFF)
  | .ie => (0xFFFF, 0x10000)

theorem regionOf_range (a : Addr) : (regionOf a).bounds.1 ≤ a.toNat ∧ a.toNat < (regionOf a).bounds.2 := by
  have := a.isLt
  unfold regionOf
  dsimp only
  repeat' split
  all_goals (simp only [Region.bounds]; omega)

theorem wramIndex_lt {a : Addr} (h : regionOf a = .wram) : wramIndex a < 0x2000 := by
  have hr := regionOf_range a
  rw [h] at hr
  simp only [Region.bounds] at hr
  unfold wramIndex; omega

theorem toNat_unmirror {a : Addr} (h : regionOf a = .mirror) : (unmirror a).toNat = a.toNat - 0x2000 := by
  have hr := regionOf_range a
  rw [h] at hr
  have h2 : (0x2000 : Addr).toNat = 0x2000 := rfl
  simp only [Region.bounds] at hr
  simp only [unmirror, BitVec.toNat_sub, h2]; omega
theorem oamIndex_lt {a : Addr} (h : regionOf a = .oam) : a.toNat - 0xFE00 < 160 := by
  have hr := regionOf_range a
  rw [h] at hr
  simp only [Region.bounds] at hr; omega
theorem regionOf_iff (a : Addr) (r : Region) : regionOf a = r ↔ r.bounds.1 ≤ a.toNat ∧ a.toNat < r.bounds.2 := by
  constructor
  · rintro rfl; exact regionOf_range a
  · intro h
    have h2 := regionOf_range a
    revert h2
    generalize regionOf a = q
    intro h2
    cases r <;> cases q <;> simp only [Region.bounds] at * <;> first | rfl | omega
theorem wramIndex_unmirror_lt {a : Addr} (h : regionOf a = .mirror) : wramIndex (unmirror a) < 0x1E00 := by
  have hr := regionOf_range a
  rw [h] at hr
  simp only [Region.bounds] at hr
  unfold wramIndex; rw [toNat_unmirror h]; omega

theorem hramIndex_lt {a : Addr} (h : regionOf a = .hram) : a.toNat - 0xFF80 < 127 := by
  have hr := regionOf_range a
  rw [h] at hr
  simp only [Region.bounds] at hr; omega

/-! ### Reads -/

/-- What a read can change: it may append to the anomaly and port streams and count a forwarded read, nothing else. -/
def OnlyDiagnostics (s t : State) : Prop :=
  ∃ an pl pr, t = { s with anomalies := an, portLog := pl, portReads := pr }

theorem OnlyDiagnostics.refl (s : State) : OnlyDiagnostics s s := ⟨_, _, _, rfl⟩

theorem OnlyDiagnostics.trans {s t u : State} (h : OnlyDiagnostics s t) (h' : OnlyDiagnostics t u) : OnlyDiagnostics s u := by
  obtain ⟨a, b, c, rfl⟩ := h
  obtain ⟨a', b', c', rfl⟩ := h'
  exact ⟨_, _, _, rfl⟩

/-- `read8` changes nothing but the diagnostic streams and the free-value counter. -/
theorem read8_only (a : Addr) (s : State) : OnlyDiagnostics s (read8 a s).2 := by
  simp only [read8]
  split <;> (repeat' split) <;>
    first
    | exact OnlyDiagnostics.refl s
    | exact ⟨_, _, _, rfl⟩

theorem OnlyDiagnostics.regs {s t : State} (h : OnlyDiagnostics s t) : t.regs = s.regs := by obtain ⟨_, _, _, rfl⟩ := h; rfl
theorem OnlyDiagnostics.cfg {s t : State} (h : OnlyDiagnostics s t) : t.cfg = s.cfg := by obtain ⟨_, _, _, rfl⟩ := h; rfl
theorem OnlyDiagnostics.outcome {s t : State} (h : OnlyDiagnostics s t) : t.outcome = s.outcome := by obtain ⟨_, _, _, rfl⟩ := h; rfl

@[simp] theorem read8_regs (a : Addr) (s : State) : (read8 a s).2.regs = s.regs := (read8_only a s).regs
@[simp] theorem read8_cfg (a : Addr) (s : State) : (read8 a s).2.cfg = s.cfg := (read8_only a s).cfg

/-! ### Writes -/

/-- What a write can change: the storage behind the region decoder and the diagnostic streams; no register but `IE`, `IF`, `DMA` and the
mapper's, no configuration, no output of the step. -/
def OnlyStorage (s t : State) : Prop :=
  ∃ ie ifr dma wram oam hram xram mapper an pl pr,
    t = { s with ie := ie, ifr := ifr, dma := dma, wram := wram, oam := oam, hram := hram, xram := xram, mapper := mapper,
                 anomalies := an, portLog := pl, portReads := pr }

theorem OnlyStorage.refl (s : State) : OnlyStorage s s := ⟨_, _, _, _, _, _, _, _, _, _, _, rfl⟩

theorem OnlyStorage.trans {s t u : State} (h : OnlyStorage s t) (h' : OnlyStorage t u) : OnlyStorage s u := by
  obtain ⟨_, _, _, _, _, _, _, _, _, _, _, rfl⟩ := h
  obtain ⟨_, _, _, _, _, _, _, _, _, _, _, rfl⟩ := h'
  exact ⟨_, _, _, _, _, _, _, _, _, _, _, rfl⟩

theorem OnlyDiagnostics.onlyStorage {s t : State} (h : OnlyDiagnostics s t) : OnlyStorage s t := by
  obtain ⟨_, _, _, rfl⟩ := h
  exact ⟨_, _, _, _, _, _, _, _, _, _, _, rfl⟩

theorem writeCell_only (a : Addr) (v : Byte) (s : State) : OnlyStorage s (writeCell a v s) := by
  simp only [writeCell, cartRomWrite, cartRamWrite, emit, logPort]
  split <;> (repeat' split) <;>
    first
    | exact OnlyStorage.refl s
    | exact ⟨_, _, _, _, _, _, _, _, _, _, _, rfl⟩

theorem dmaByte_only (b : Byte) (s : State) (i : Nat) : OnlyStorage s (dmaByte b s i) :=
  (read8_only _ s).onlyStorage.trans (writeCell_only _ _ _)

/-- A property that every byte of the DMA copy keeps is kept by the copy. -/
theorem dmaCopy_keeps {P : State → Prop} (b : Byte) (hstep : ∀ s i, i < dmaLength → P s → P (dmaByte b s i)) {s : State} (h : P s) :
    P (dmaCopy b s) := by
  have key : ∀ (l : List Nat), (∀ i ∈ l, i < dmaLength) → ∀ s, P s → P (l.foldl (dmaByte b) s) := by
    intro l
    induction l with
    | nil => intro _ s h; exact h
    | cons i t ih =>
      intro hl s h
      exact ih (fun j hj => hl j (List.mem_cons_of_mem _ hj)) _ (hstep s i (hl i List.mem_cons_self) h)
  exact key _ (fun i hi => List.mem_range.1 hi) s h

theorem dmaCopy_only (b : Byte) (s : State) : OnlyStorage s (dmaCopy b s) :=
  dmaCopy_keeps (P := OnlyStorage s) b (fun t i _ h => h.trans (dmaByte_only b t i)) (OnlyStorage.refl s)

/-- `write8` changes nothing but storage. -/
theorem write8_only (a : Addr) (v : Byte) (s : State) : OnlyStorage s (write8 a v s) := by
  simp only [write8]
  split
  · exact (writeCell_only a v s).trans (dmaCopy_only v _)
  · exact writeCell_only a v s

theorem OnlyStorage.regs {s t : State} (h : OnlyStorage s t) : t.regs = s.regs := by
  obtain ⟨_, _, _, _, _, _, _, _, _, _, _, rfl⟩ := h; rfl
theorem OnlyStorage.cfg {s t : State} (h : OnlyStorage s t) : t.cfg = s.cfg := by
  obtain ⟨_, _, _, _, _, _, _, _, _, _, _, rfl⟩ := h; rfl
theorem OnlyStorage.ime {s t : State} (h : OnlyStorage s t) : t.ime = s.ime := by
  obtain ⟨_, _, _, _, _, _, _, _, _, _, _, rfl⟩ := h; rfl

@[simp] theorem write8_regs (a : Addr) (v : Byte) (s : State) : (write8 a v s).regs = s.regs := (write8_only a v s).regs
@[simp] theorem write8_cfg (a : Addr) (v : Byte) (s : State) : (write8 a v s).cfg = s.cfg := (write8_only a v s).cfg
@[simp] theorem write16_regs (a v : Addr) (s : State) : (write16 a v s).regs = s.regs := by simp [write16]
@[simp] theorem write16_cfg (a v : Addr) (s : State) : (write16 a v s).cfg = s.cfg := by simp [write16]

/-! ### What reads and writes leave alone -/

@[simp] theorem read8_ime (a : Addr) (s : State) : (read8 a s).2.ime = s.ime := by
  obtain ⟨_, _, _, h⟩ := read8_only a s; rw [h]
@[simp] theorem write8_ime (a : Addr) (v : Byte) (s : State) : (write8 a v s).ime = s.ime := by
  obtain ⟨_, _, _, _, _, _, _, _, _, _, _, h⟩ := write8_only a v s; rw [h]
@[simp] theorem write16_ime (a v : Addr) (s : State) : (write16 a v s).ime = s.ime := by simp [write16]
@[simp] theorem read8_imePending (a : Addr) (s : State) : (read8 a s).2.imePending = s.imePending := by
  obtain ⟨_, _, _, h⟩ := read8_only a s; rw [h]
@[simp] theorem write8_imePending (a : Addr) (v : Byte) (s : State) : (write8 a v s).imePending = s.imePending := by
  obtain ⟨_, _, _, _, _, _, _, _, _, _, _, h⟩ := write8_only a v s; rw [h]
@[simp] theorem write16_imePending (a v : Addr) (s : State) : (write16 a v s).imePending = s.imePending := by simp [write16]
@[simp] theorem read8_halted (a : Addr) (s : State) : (read8 a s).2.halted = s.halted := by
  obtain ⟨_, _, _, h⟩ := read8_only a s; rw [h]
@[simp] theorem write8_halted (a : Addr) (v : Byte) (s : State) : (write8 a v s).halted = s.halted := by
  obtain ⟨_, _, _, _, _, _, _, _, _, _, _, h⟩ := write8_only a v s; rw [h]
@[simp] theorem write16_halted (a v : Addr) (s : State) : (write16 a v s).halted = s.halted := by simp [write16]
@[simp] theorem read8_irqLines (a : Addr) (s : State) : (read8 a s).2.irqLines = s.irqLines := by
  obtain ⟨_, _, _, h⟩ := read8_only a s; rw [h]
@[simp] theorem write8_irqLines (a : Addr) (v : Byte) (s : State) : (write8 a v s).irqLines = s.irqLines := by
  obtain ⟨_, _, _, _, _, _, _, _, _, _, _, h⟩ := write8_only a v s; rw [h]
@[simp] theorem write16_irqLines (a v : Addr) (s : State) : (write16 a v s).irqLines = s.irqLines := by simp [write16]
@[simp] theorem read8_outcome (a : Addr) (s : State) : (read8 a s).2.outcome = s.outcome := by
  obtain ⟨_, _, _, h⟩ := read8_only a s; rw [h]
@[simp] theorem write8_outcome (a : Addr) (v : Byte) (s : State) : (write8 a v s).outcome = s.outcome := by
  obtain ⟨_, _, _, _, _, _, _, _, _, _, _, h⟩ := write8_only a v s; rw [h]
@[simp] theorem write16_outcome (a v : Addr) (s : State) : (write16 a v s).outcome = s.outcome := by simp [write16]
@[simp] theorem read8_cycles (a : Addr) (s : State) : (read8 a s).2.cycles = s.cycles := by
  obtain ⟨_, _, _, h⟩ := read8_only a s; rw [h]
@[simp] theorem read8_cycleTotal (a : Addr) (s : State) : (read8 a s).2.cycleTotal = s.cycleTotal := by
  obtain ⟨_, _, _, h⟩ := read8_only a s; rw [h]
@[simp] theorem write8_cycles (a : Addr) (v : Byte) (s : State) : (write8 a v s).cycles = s.cycles := by
  obtain ⟨_, _, _, _, _, _, _, _, _, _, _, h⟩ := write8_only a v s; rw [h]
@[simp] theorem write8_cycleTotal (a : Addr) (v : Byte) (s : State) : (write8 a v s).cycleTotal = s.cycleTotal := by
  obtain ⟨_, _, _, _, _, _, _, _, _, _, _, h⟩ := write8_only a v s; rw [h]
@[simp] theorem write16_cycles (a v : Addr) (s : State) : (write16 a v s).cycles = s.cycles := by simp [write16]
@[simp] theorem write16_cycleTotal (a v : Addr) (s : State) : (write16 a v s).cycleTotal = s.cycleTotal := by simp [write16]

/-- The numbers of the anomaly kinds are those of the table of R345, one to five. -/
theorem Anomaly.code_range (x : Anomaly) : 1 ≤ x.code ∧ x.code ≤ 5 := by cases x <;> simp [Anomaly.code]

/-! ### Fetch and the stack -/

@[simp] theorem fetch8_cfg (s : State) : (fetch8 s).2.cfg = s.cfg := by simp [fetch8]
@[simp] theorem fetch8_f (s : State) : (fetch8 s).2.regs.f = s.regs.f := by simp [fetch8]
@[simp] theorem fetch8_pc (s : State) : (fetch8 s).2.regs.pc = s.regs.pc + 1 := by simp [fetch8]

@[simp] theorem push16_regs (v : Addr) (s : State) : (push16 v s).regs = { s.regs with sp := s.regs.sp - 2 } := by simp [push16]
@[simp] theorem push16_cfg (v : Addr) (s : State) : (push16 v s).cfg = s.cfg := by simp [push16]
@[simp] theorem pop16_regs (s : State) : (pop16 s).2.regs = { s.regs with sp := s.regs.sp + 2 } := by simp [pop16]
@[simp] theorem pop16_cfg (s : State) : (pop16 s).2.cfg = s.cfg := by simp [pop16]

@[simp] theorem push16_ime (v : Addr) (s : State) : (push16 v s).ime = s.ime := by simp [push16]
@[simp] theorem pop16_ime (s : State) : (pop16 s).2.ime = s.ime := by simp [pop16]
@[simp] theorem push16_imePending (v : Addr) (s : State) : (push16 v s).imePending = s.imePending := by simp [push16]
@[simp] theorem pop16_imePending (s : State) : (pop16 s).2.imePending = s.imePending := by simp [pop16]
@[simp] theorem push16_halted (v : Addr) (s : State) : (push16 v s).halted = s.halted := by simp [push16]
@[simp] theorem pop16_halted (s : State) : (pop16 s).2.halted = s.halted := by simp [pop16]
@[simp] theorem push16_irqLines (v : Addr) (s : State) : (push16 v s).irqLines = s.irqLines := by simp [push16]
@[simp] theorem pop16_irqLines (s : State) : (pop16 s).2.irqLines = s.irqLines := by simp [pop16]
@[simp] theorem push16_outcome (v : Addr) (s : State) : (push16 v s).outcome = s.outcome := by simp [push16]
@[simp] theorem pop16_outcome (s : State) : (pop16 s).2.outcome = s.outcome := by simp [pop16]
@[simp] theorem push16_cycles (v : Addr) (s : State) : (push16 v s).cycles = s.cycles := by simp [push16]
@[simp] theorem push16_cycleTotal (v : Addr) (s : State) : (push16 v s).cycleTotal = s.cycleTotal := by simp [push16]
@[simp] theorem pop16_cycles (s : State) : (pop16 s).2.cycles = s.cycles := by simp [pop16]
@[simp] theorem pop16_cycleTotal (s : State) : (pop16 s).2.cycleTotal = s.cycleTotal := by simp [pop16]

/-! ### The well-formed storage -/

/-- The part of `Inv` that is about storage and configuration. -/
structure StorageOk (s : State) : Prop where
  wram   : Memory.wfBelow 0x2000 s.wram = true
  oam    : Memory.wfBelow 160 s.oam = true
  hram   : Memory.wfBelow 127 s.hram = true
  xram   : Memory.wfBelow (xramCells s.cfg) s.xram = true
  half   : halfByteRam s.mapper = true → ∀ c ∈ s.xram, c.2 &&& 0xF0 = 0
  config : s.cfg.wf = true
  mapper : mapperAgrees s.cfg.mapper s.mapper = true
  banks  : banksLegal s.mapper = true

theorem inv_iff (s : State) : Inv s ↔ lowNibble s.regs.f = 0 ∧ StorageOk s :=
  ⟨fun h => ⟨h.flags, ⟨h.wram, h.oam, h.hram, h.xram, h.half, h.config, h.mapper, h.banks⟩⟩,
   fun h => ⟨h.1, h.2.wram, h.2.oam, h.2.hram, h.2.xram, h.2.half, h.2.config, h.2.mapper, h.2.banks⟩⟩

/-- Well-formed storage does not look at registers, interrupt state or outputs. -/
theorem StorageOk.congr {s t : State} (h : StorageOk s) (hw : t.wram = s.wram) (ho : t.oam = s.oam) (hh : t.hram = s.hram)
    (hx : t.xram = s.xram) (hm : t.mapper = s.mapper) (hc : t.cfg = s.cfg) : StorageOk t := by
  obtain ⟨h1, h2, h3, h4, h5, h6, h7, h8⟩ := h
  constructor <;> simp only [hw, ho, hh, hx, hm, hc] <;> assumption

theorem OnlyDiagnostics.storageOk {s t : State} (h : OnlyDiagnostics s t) (hs : StorageOk s) : StorageOk t := by
  obtain ⟨_, _, _, rfl⟩ := h
  exact hs.congr rfl rfl rfl rfl rfl rfl

theorem atLeastOne_ne_zero {n : Nat} (b : BitVec n) (h : (1 : BitVec n) ≠ 0) : atLeastOne b ≠ 0 := by
  simp only [atLeastOne]; split <;> assumption

/-- A mapper control write keeps the family and the legal bank registers. -/
theorem mapperWrite_keeps (k : MapperKind) (m : MapperState) (a : Addr) (v : Byte) (hk : mapperAgrees k m = true)
    (hb : banksLegal m = true) :
    mapperAgrees k (mapperWrite m a v) = true ∧ banksLegal (mapperWrite m a v) = true ∧
      halfByteRam (mapperWrite m a v) = halfByteRam m := by
  cases m with
  | unbanked => exact ⟨hk, hb, rfl⟩
  | mbc1 r =>
    refine ⟨by cases k <;> simp_all [mapperAgrees, mapperWrite], ?_, rfl⟩
    simp only [mapperWrite, mbc1Write, banksLegal, decide_eq_true_eq] at hb ⊢
    repeat' split
    · exact hb
    · exact atLeastOne_ne_zero _ (by decide)
    · exact hb
    · exact hb
  | mbc2 r =>
    refine ⟨by cases k <;> simp_all [mapperAgrees, mapperWrite], ?_, rfl⟩
    simp only [mapperWrite, mbc2Write, banksLegal, decide_eq_true_eq] at hb ⊢
    repeat' split
    · exact atLeastOne_ne_zero _ (by decide)
    · exact hb
    · exact hb
  | mbc3 r =>
    refine ⟨by cases k <;> simp_all [mapperAgrees, mapperWrite], ?_, rfl⟩
    simp only [mapperWrite, mbc3Write, banksLegal, decide_eq_true_eq] at hb ⊢
    repeat' split
    · exact hb
    · exact atLeastOne_ne_zero _ (by decide)
    · exact hb
    · exact hb
  | mbc5 r => exact ⟨by cases k <;> simp_all [mapperAgrees, mapperWrite], rfl, rfl⟩

/-- An external-RAM index that the window shows lies inside external RAM. -/
theorem cartRamIndex_lt {s : State} {a : Addr} {i : Nat} (hm : mapperAgrees s.cfg.mapper s.mapper = true)
    (h : cartRamIndex s a = some i) : i < xramCells s.cfg := by
  have hin : ∀ {j}, s.cfg.mapper ≠ .mbc2 → inXram s.cfg j = some i → i < xramCells s.cfg := by
    intro j hne hj
    simp only [inXram] at hj
    split at hj
    · cases hj; simpa [xramCells, hne]
    · cases hj
  simp only [cartRamIndex] at h
  split at h
  · next hs => exact hin (fun hc => by simp [hs, hc, mapperAgrees] at hm) h
  · next r hs =>
    split at h
    · exact hin (fun hc => by simp [hs, hc, mapperAgrees] at hm) h
    · cases h
  · next r hs =>
    split at h
    · have hc : s.cfg.mapper = .mbc2 := by
        revert hm; rw [hs]; cases s.cfg.mapper <;> simp [mapperAgrees]
      have hi : (a.toNat - 0xA000) % mbc2Cells = i := Option.some.inj h
      have h512 : xramCells s.cfg = mbc2Cells := by simp [xramCells, hc]
      rw [h512, ← hi]
      exact Nat.mod_lt _ (Nat.succ_pos 511)
    · cases h
  · next r hs =>
    split at h
    · exact hin (fun hc => by simp [hs, hc, mapperAgrees] at hm) h
    · cases h
  · next r hs =>
    split at h
    · exact hin (fun hc => by simp [hs, hc, mapperAgrees] at hm) h
    · cases h

theorem halfByte_mask (v : Byte) : (v &&& 0x0F) &&& 0xF0 = 0 := by
  revert v; exact byte_forall (by decide +kernel)

/-- A write keeps well-formed storage. -/
theorem writeCell_storageOk {s : State} (a : Addr) (v : Byte) (h : StorageOk s) : StorageOk (writeCell a v s) := by
  simp only [writeCell]
  split
  · have := mapperWrite_keeps _ _ a v h.mapper h.banks
    exact ⟨h.wram, h.oam, h.hram, h.xram, fun hh => h.half (this.2.2 ▸ hh), h.config, this.1, this.2.1⟩
  · split
    · exact h.congr rfl rfl rfl rfl rfl rfl
    · exact h
  · simp only [cartRamWrite]
    split
    · exact h
    · next i hi =>
      refine ⟨h.wram, h.oam, h.hram, Memory.wfBelow_set _ (cartRamIndex_lt h.mapper hi) h.xram, ?_, h.config, h.mapper, h.banks⟩
      intro hh c hc
      rcases Memory.mem_set hc with rfl | hc
      · have hh' : halfByteRam s.mapper = true := hh
        simp only [hh', if_pos]; exact halfByte_mask v
      · exact h.half hh c hc
  · next hr => exact ⟨Memory.wfBelow_set _ (wramIndex_lt hr) h.wram, h.oam, h.hram, h.xram, h.half, h.config, h.mapper, h.banks⟩
  · next hr =>
    exact ⟨Memory.wfBelow_set _ (by have := wramIndex_unmirror_lt hr; omega) h.wram, h.oam, h.hram, h.xram, h.half, h.config,
      h.mapper, h.banks⟩
  · next hr => exact ⟨h.wram, Memory.wfBelow_set _ (oamIndex_lt hr) h.oam, h.hram, h.xram, h.half, h.config, h.mapper, h.banks⟩
  · exact h.congr rfl rfl rfl rfl rfl rfl
  · repeat' split
    · exact h.congr rfl rfl rfl rfl rfl rfl
    · exact h.congr rfl rfl rfl rfl rfl rfl
    · exact h.congr rfl rfl rfl rfl rfl rfl
    · exact h
  · next hr => exact ⟨h.wram, h.oam, Memory.wfBelow_set _ (hramIndex_lt hr) h.hram, h.xram, h.half, h.config, h.mapper, h.banks⟩
  · exact h.congr rfl rfl rfl rfl rfl rfl

theorem write8_storageOk {s : State} (a : Addr) (v : Byte) (h : StorageOk s) : StorageOk (write8 a v s) := by
  simp only [write8]
  split
  · exact dmaCopy_keeps v (fun t i _ ht => writeCell_storageOk _ _ ((read8_only _ t).storageOk ht)) (writeCell_storageOk a v h)
  · exact writeCell_storageOk a v h

theorem read8_storageOk {s : State} (a : Addr) (h : StorageOk s) : StorageOk (read8 a s).2 := (read8_only a s).storageOk h

theorem push16_storageOk {s : State} (v : Addr) (h : StorageOk s) : StorageOk (push16 v s) :=
  (write8_storageOk _ _ (write8_storageOk _ _ h)).congr rfl rfl rfl rfl rfl rfl

theorem pop16_storageOk {s : State} (h : StorageOk s) : StorageOk (pop16 s).2 :=
  (read8_storageOk _ (read8_storageOk _ h)).congr rfl rfl rfl rfl rfl rfl

/-! ### The cycle output -/

/-- The untaken cost is the table's unless `cfg.cycles` overrides it. -/
theorem cycleCost_override (cfg : Config) (k : Nat) (p : Nat × (Nat × Nat)) (h : cfg.cycleOverrides.find? (fun p => p.1 == k) = some p) :
    cycleCost cfg k = p.2 := by simp [cycleCost, h]

theorem cycleCost_table (cfg : Config) (k : Nat) (h : cfg.cycleOverrides.find? (fun p => p.1 == k) = none) :
    cycleCost cfg k = tableCost k := by simp [cycleCost, h]

end Sys2Proof.Machine
end

