-- ==== Sys2Proof/Laws/Exec.lean ====
section
/-! SUPPORT. `exec` family by family: one equation for each family of the opcode table, its cost, and what any instruction can do to the
storage and to the system state. -/

namespace Sys2Proof.Machine

/-! ### Completion with the instruction's cost -/

theorem untakenCost_eq (cfg : Config) (i : Instr) : untakenCost cfg i (tableCost (opcodeKey i)).1 = (cycleCost cfg (opcodeKey i)).1 := by
  unfold untakenCost cycleCost; cases cfg.cycleOverrides.find? (fun p => p.1 == opcodeKey i) <;> rfl

theorem takenCost_eq (cfg : Config) (i : Instr) : takenCost cfg i (tableCost (opcodeKey i)).2 = (cycleCost cfg (opcodeKey i)).2 := by
  unfold takenCost cycleCost; cases cfg.cycleOverrides.find? (fun p => p.1 == opcodeKey i) <;> rfl

/-- `done` of an instruction with one cost, in the words of the statements. -/
theorem done_untaken {i : Instr} {n : Nat} (h : (tableCost (opcodeKey i)).1 = n) (u : State) :
    done (opcodeKey i) false u = .next { u with cycles := untakenCost u.cfg i n } := by
  subst h; rw [untakenCost_eq]; rfl

theorem done_taken {i : Instr} {n : Nat} (h : (tableCost (opcodeKey i)).2 = n) (u : State) :
    done (opcodeKey i) true u = .next { u with cycles := takenCost u.cfg i n } := by
  subst h; rw [takenCost_eq]; rfl

/-- A conditional transfer, in the words of the statements. -/
theorem whenCond_eq {i : Instr} {m n : Nat} (hm : (tableCost (opcodeKey i)).1 = m) (hn : (tableCost (opcodeKey i)).2 = n) (cc : Cond)
    (f : State → State) (s : State) :
    whenCond (opcodeKey i) cc f s =
      if s.cond cc = true then .next { f s with cycles := takenCost (f s).cfg i n }
      else .next { s with cycles := untakenCost s.cfg i m } := by
  simp only [whenCond]
  cases s.cond cc
  · exact done_untaken hm s
  · exact done_taken hn (f s)

/-! ### The families -/

theorem exec_ldRegReg (rd rs : Reg8) (s : State) :
    exec (.ldRegReg rd rs) s = done (opcodeKey (.ldRegReg rd rs)) false (ldRegReg rd rs s) := by cases rd <;> cases rs <;> rfl
theorem cost_ldRegReg (rd rs : Reg8) : (tableCost (opcodeKey (.ldRegReg rd rs))).1 = 4 := by cases rd <;> cases rs <;> rfl

theorem exec_ldRegImm (rd : Reg8) (n : Byte) (s : State) :
    exec (.ldRegImm rd n) s = done (opcodeKey (.ldRegImm rd n)) false (ldRegImm rd n s) := by cases rd <;> rfl
theorem cost_ldRegImm (rd : Reg8) (n : Byte) : (tableCost (opcodeKey (.ldRegImm rd n))).1 = 8 := by cases rd <;> rfl

theorem exec_ldRegMem (rd : Reg8) (s : State) :
    exec (.ldRegMem rd) s = done (opcodeKey (.ldRegMem rd)) false (ldRegFrom rd s.hl s) := by cases rd <;> rfl
theorem cost_ldRegMem (rd : Reg8) : (tableCost (opcodeKey (.ldRegMem rd))).1 = 8 := by cases rd <;> rfl

theorem exec_ldMemReg (r : Reg8) (s : State) :
    exec (.ldMemReg r) s = done (opcodeKey (.ldMemReg r)) false (ldTo s.hl (s.get8 r) s) := by cases r <;> rfl
theorem cost_ldMemReg (r : Reg8) : (tableCost (opcodeKey (.ldMemReg r))).1 = 8 := by cases r <;> rfl

theorem exec_ldPairImm (p : RP) (nn : Addr) (s : State) :
    exec (.ldPairImm p nn) s = done (opcodeKey (.ldPairImm p nn)) false (s.setRP p nn) := by cases p <;> rfl
theorem cost_ldPairImm (p : RP) (nn : Addr) : (tableCost (opcodeKey (.ldPairImm p nn))).1 = 12 := by cases p <;> rfl

theorem exec_push (p : RP2) (s : State) : exec (.push p) s = done (opcodeKey (.push p)) false (push16 (s.getRP2 p) s) := by
  cases p <;> rfl
theorem cost_push (p : RP2) : (tableCost (opcodeKey (.push p))).1 = 16 := by cases p <;> rfl

theorem exec_pop (p : RP2) (s : State) : exec (.pop p) s = done (opcodeKey (.pop p)) false (popPair p s) := by cases p <;> rfl
theorem cost_pop (p : RP2) : (tableCost (opcodeKey (.pop p))).1 = 12 := by cases p <;> rfl

theorem exec_aluReg (op : AluOp) (r : Reg8) (s : State) :
    exec (.aluReg op r) s = done (opcodeKey (.aluReg op r)) false (aluWith op (s.get8 r) s) := by cases op <;> cases r <;> rfl
theorem cost_aluReg (op : AluOp) (r : Reg8) : (tableCost (opcodeKey (.aluReg op r))).1 = 4 := by cases op <;> cases r <;> rfl

theorem exec_aluMem (op : AluOp) (s : State) : exec (.aluMem op) s = done (opcodeKey (.aluMem op)) false (aluMem op s) := by
  cases op <;> rfl
theorem cost_aluMem (op : AluOp) : (tableCost (opcodeKey (.aluMem op))).1 = 8 := by cases op <;> rfl

theorem exec_aluImm (op : AluOp) (n : Byte) (s : State) :
    exec (.aluImm op n) s = done (opcodeKey (.aluImm op n)) false (aluWith op n s) := by cases op <;> rfl
theorem cost_aluImm (op : AluOp) (n : Byte) : (tableCost (opcodeKey (.aluImm op n))).1 = 8 := by cases op <;> rfl

theorem exec_incReg (r : Reg8) (s : State) : exec (.incReg r) s = done (opcodeKey (.incReg r)) false (updateReg inc8 r s) := by
  cases r <;> rfl
theorem cost_incReg (r : Reg8) : (tableCost (opcodeKey (.incReg r))).1 = 4 := by cases r <;> rfl

theorem exec_decReg (r : Reg8) (s : State) : exec (.decReg r) s = done (opcodeKey (.decReg r)) false (updateReg dec8 r s) := by
  cases r <;> rfl
theorem cost_decReg (r : Reg8) : (tableCost (opcodeKey (.decReg r))).1 = 4 := by cases r <;> rfl

theorem exec_addHL (p : RP) (s : State) : exec (.addHL p) s = done (opcodeKey (.addHL p)) false (addHL (s.getRP p) s) := by
  cases p <;> rfl
theorem cost_addHL (p : RP) : (tableCost (opcodeKey (.addHL p))).1 = 8 := by cases p <;> rfl

theorem exec_incPair (p : RP) (s : State) :
    exec (.incPair p) s = done (opcodeKey (.incPair p)) false (s.setRP p (s.getRP p + 1)) := by cases p <;> rfl
theorem cost_incPair (p : RP) : (tableCost (opcodeKey (.incPair p))).1 = 8 := by cases p <;> rfl

theorem exec_decPair (p : RP) (s : State) :
    exec (.decPair p) s = done (opcodeKey (.decPair p)) false (s.setRP p (s.getRP p - 1)) := by cases p <;> rfl
theorem cost_decPair (p : RP) : (tableCost (opcodeKey (.decPair p))).1 = 8 := by cases p <;> rfl

theorem exec_rotReg (op : RotOp) (r : Reg8) (s : State) :
    exec (.rotReg op r) s = done (opcodeKey (.rotReg op r)) false (updateReg (rotateF op) r s) := by cases op <;> cases r <;> rfl
theorem cost_rotReg (op : RotOp) (r : Reg8) : (tableCost (opcodeKey (.rotReg op r))).1 = 8 := by cases op <;> cases r <;> rfl

theorem exec_rotMem (op : RotOp) (s : State) :
    exec (.rotMem op) s = done (opcodeKey (.rotMem op)) false (updateMem (rotateF op) s) := by cases op <;> rfl
theorem cost_rotMem (op : RotOp) : (tableCost (opcodeKey (.rotMem op))).1 = 16 := by cases op <;> rfl

theorem exec_bitReg (b : Fin 8) (r : Reg8) (s : State) :
    exec (.bitReg b r) s = done (opcodeKey (.bitReg b r)) false (testBit b (s.get8 r) s) := by
  fin_cases b <;> cases r <;> rfl
theorem cost_bitReg (b : Fin 8) (r : Reg8) : (tableCost (opcodeKey (.bitReg b r))).1 = 8 := by fin_cases b <;> cases r <;> rfl

theorem exec_bitMem (b : Fin 8) (s : State) : exec (.bitMem b) s = done (opcodeKey (.bitMem b)) false (testBitMem b s) := by
  fin_cases b <;> rfl
theorem cost_bitMem (b : Fin 8) : (tableCost (opcodeKey (.bitMem b))).1 = 12 := by fin_cases b <;> rfl

theorem exec_resReg (b : Fin 8) (r : Reg8) (s : State) :
    exec (.resReg b r) s = done (opcodeKey (.resReg b r)) false (mapReg (clearBit · b.val) r s) := by
  fin_cases b <;> cases r <;> rfl
theorem cost_resReg (b : Fin 8) (r : Reg8) : (tableCost (opcodeKey (.resReg b r))).1 = 8 := by fin_cases b <;> cases r <;> rfl

theorem exec_resMem (b : Fin 8) (s : State) :
    exec (.resMem b) s = done (opcodeKey (.resMem b)) false (mapMem (clearBit · b.val) s) := by fin_cases b <;> rfl
theorem cost_resMem (b : Fin 8) : (tableCost (opcodeKey (.resMem b))).1 = 16 := by fin_cases b <;> rfl

theorem exec_setReg (b : Fin 8) (r : Reg8) (s : State) :
    exec (.setReg b r) s = done (opcodeKey (.setReg b r)) false (mapReg (setBit · b.val) r s) := by
  fin_cases b <;> cases r <;> rfl
theorem cost_setReg (b : Fin 8) (r : Reg8) : (tableCost (opcodeKey (.setReg b r))).1 = 8 := by fin_cases b <;> cases r <;> rfl

theorem exec_setMem (b : Fin 8) (s : State) :
    exec (.setMem b) s = done (opcodeKey (.setMem b)) false (mapMem (setBit · b.val) s) := by fin_cases b <;> rfl
theorem cost_setMem (b : Fin 8) : (tableCost (opcodeKey (.setMem b))).1 = 16 := by fin_cases b <;> rfl

theorem exec_jpCond (cc : Cond) (nn : Addr) (s : State) :
    exec (.jpCond cc nn) s = whenCond (opcodeKey (.jpCond cc nn)) cc (fun t => t.setPC nn) s := by cases cc <;> rfl
theorem cost_jpCond (cc : Cond) (nn : Addr) : tableCost (opcodeKey (.jpCond cc nn)) = (12, 16) := by cases cc <;> rfl

theorem exec_jrCond (cc : Cond) (e : Byte) (s : State) :
    exec (.jrCond cc e) s = whenCond (opcodeKey (.jrCond cc e)) cc (jumpRel e) s := by cases cc <;> rfl
theorem cost_jrCond (cc : Cond) (e : Byte) : tableCost (opcodeKey (.jrCond cc e)) = (8, 12) := by cases cc <;> rfl

theorem exec_callCond (cc : Cond) (nn : Addr) (s : State) :
    exec (.callCond cc nn) s = whenCond (opcodeKey (.callCond cc nn)) cc (callTo nn) s := by cases cc <;> rfl
theorem cost_callCond (cc : Cond) (nn : Addr) : tableCost (opcodeKey (.callCond cc nn)) = (12, 24) := by cases cc <;> rfl

theorem exec_retCond (cc : Cond) (s : State) : exec (.retCond cc) s = whenCond (opcodeKey (.retCond cc)) cc popPC s := by
  cases cc <;> rfl
theorem cost_retCond (cc : Cond) : tableCost (opcodeKey (.retCond cc)) = (8, 20) := by cases cc <;> rfl

theorem exec_rst (y : Fin 8) (s : State) : exec (.rst y) s = done (opcodeKey (.rst y)) false (callTo (rstTarget y) s) := by
  fin_cases y <;> rfl
theorem cost_rst (y : Fin 8) : (tableCost (opcodeKey (.rst y))).1 = 16 := by fin_cases y <;> rfl

/-! ### The instructions that are families of their own -/

theorem exec_ld_mHL_n (n : Byte) (s : State) : exec (.ld_mHL_n n) s = done (opcodeKey (.ld_mHL_n n)) false (ldTo s.hl n s) := rfl
theorem cost_ld_mHL_n (n : Byte) : (tableCost (opcodeKey (.ld_mHL_n n))).1 = 12 := rfl

theorem exec_ld_A_mBC (s : State) : exec .ld_A_mBC s = done (opcodeKey .ld_A_mBC) false (ldRegFrom .a s.bc s) := rfl
theorem cost_ld_A_mBC : (tableCost (opcodeKey .ld_A_mBC)).1 = 8 := rfl

theorem exec_ld_A_mDE (s : State) : exec .ld_A_mDE s = done (opcodeKey .ld_A_mDE) false (ldRegFrom .a s.de s) := rfl
theorem cost_ld_A_mDE : (tableCost (opcodeKey .ld_A_mDE)).1 = 8 := rfl

theorem exec_ld_mBC_A (s : State) : exec .ld_mBC_A s = done (opcodeKey .ld_mBC_A) false (ldTo s.bc s.regs.a s) := rfl
theorem cost_ld_mBC_A : (tableCost (opcodeKey .ld_mBC_A)).1 = 8 := rfl

theorem exec_ld_mDE_A (s : State) : exec .ld_mDE_A s = done (opcodeKey .ld_mDE_A) false (ldTo s.de s.regs.a s) := rfl
theorem cost_ld_mDE_A : (tableCost (opcodeKey .ld_mDE_A)).1 = 8 := rfl

theorem exec_ld_A_mnn (nn : Addr) (s : State) : exec (.ld_A_mnn nn) s = done (opcodeKey (.ld_A_mnn nn)) false (ldRegFrom .a nn s) := rfl
theorem cost_ld_A_mnn (nn : Addr) : (tableCost (opcodeKey (.ld_A_mnn nn))).1 = 16 := rfl

theorem exec_ld_mnn_A (nn : Addr) (s : State) : exec (.ld_mnn_A nn) s = done (opcodeKey (.ld_mnn_A nn)) false (ldTo nn s.regs.a s) := rfl
theorem cost_ld_mnn_A (nn : Addr) : (tableCost (opcodeKey (.ld_mnn_A nn))).1 = 16 := rfl

theorem exec_ldh_A_mn (n : Byte) (s : State) : exec (.ldh_A_mn n) s = done (opcodeKey (.ldh_A_mn n)) false (ldRegFrom .a (highPage n) s) := rfl
theorem cost_ldh_A_mn (n : Byte) : (tableCost (opcodeKey (.ldh_A_mn n))).1 = 12 := rfl

theorem exec_ldh_mn_A (n : Byte) (s : State) : exec (.ldh_mn_A n) s = done (opcodeKey (.ldh_mn_A n)) false (ldTo (highPage n) s.regs.a s) := rfl
theorem cost_ldh_mn_A (n : Byte) : (tableCost (opcodeKey (.ldh_mn_A n))).1 = 12 := rfl

theorem exec_ldh_A_mC (s : State) : exec .ldh_A_mC s = done (opcodeKey .ldh_A_mC) false (ldRegFrom .a (highPage s.regs.c) s) := rfl
theorem cost_ldh_A_mC : (tableCost (opcodeKey .ldh_A_mC)).1 = 8 := rfl

theorem exec_ldh_mC_A (s : State) : exec .ldh_mC_A s = done (opcodeKey .ldh_mC_A) false (ldTo (highPage s.regs.c) s.regs.a s) := rfl
theorem cost_ldh_mC_A : (tableCost (opcodeKey .ldh_mC_A)).1 = 8 := rfl

theorem exec_ld_A_mHLi (s : State) : exec .ld_A_mHLi s = done (opcodeKey .ld_A_mHLi) false (ldAStep 1 s) := rfl
theorem cost_ld_A_mHLi : (tableCost (opcodeKey .ld_A_mHLi)).1 = 8 := rfl

theorem exec_ld_A_mHLd (s : State) : exec .ld_A_mHLd s = done (opcodeKey .ld_A_mHLd) false (ldAStep (-1) s) := rfl
theorem cost_ld_A_mHLd : (tableCost (opcodeKey .ld_A_mHLd)).1 = 8 := rfl

theorem exec_ld_mHLi_A (s : State) : exec .ld_mHLi_A s = done (opcodeKey .ld_mHLi_A) false (stAStep 1 s) := rfl
theorem cost_ld_mHLi_A : (tableCost (opcodeKey .ld_mHLi_A)).1 = 8 := rfl

theorem exec_ld_mHLd_A (s : State) : exec .ld_mHLd_A s = done (opcodeKey .ld_mHLd_A) false (stAStep (-1) s) := rfl
theorem cost_ld_mHLd_A : (tableCost (opcodeKey .ld_mHLd_A)).1 = 8 := rfl

theorem exec_ld_mnn_SP (nn : Addr) (s : State) : exec (.ld_mnn_SP nn) s = done (opcodeKey (.ld_mnn_SP nn)) false (write16 nn s.regs.sp s) := rfl
theorem cost_ld_mnn_SP (nn : Addr) : (tableCost (opcodeKey (.ld_mnn_SP nn))).1 = 20 := rfl

theorem exec_ld_SP_HL (s : State) : exec .ld_SP_HL s = done (opcodeKey .ld_SP_HL) false (s.setSP s.hl) := rfl
theorem cost_ld_SP_HL : (tableCost (opcodeKey .ld_SP_HL)).1 = 8 := rfl

theorem exec_ld_HL_SPe (e : Byte) (s : State) : exec (.ld_HL_SPe e) s = done (opcodeKey (.ld_HL_SPe e)) false (ldHLSp e s) := rfl
theorem cost_ld_HL_SPe (e : Byte) : (tableCost (opcodeKey (.ld_HL_SPe e))).1 = 12 := rfl

theorem exec_inc_mHL (s : State) : exec .inc_mHL s = done (opcodeKey .inc_mHL) false (updateMem inc8 s) := rfl
theorem cost_inc_mHL : (tableCost (opcodeKey .inc_mHL)).1 = 12 := rfl

theorem exec_dec_mHL (s : State) : exec .dec_mHL s = done (opcodeKey .dec_mHL) false (updateMem dec8 s) := rfl
theorem cost_dec_mHL : (tableCost (opcodeKey .dec_mHL)).1 = 12 := rfl

theorem exec_daa (s : State) : exec .daa s = done (opcodeKey .daa) false (updateReg daa .a s) := rfl
theorem cost_daa : (tableCost (opcodeKey .daa)).1 = 4 := rfl

theorem exec_cpl (s : State) : exec .cpl s = done (opcodeKey .cpl) false (updateReg cpl .a s) := rfl
theorem cost_cpl : (tableCost (opcodeKey .cpl)).1 = 4 := rfl

theorem exec_scf (s : State) : exec .scf s = done (opcodeKey .scf) false (s.setF (scf s.regs.f)) := rfl
theorem cost_scf : (tableCost (opcodeKey .scf)).1 = 4 := rfl

theorem exec_ccf (s : State) : exec .ccf s = done (opcodeKey .ccf) false (s.setF (ccf s.regs.f)) := rfl
theorem cost_ccf : (tableCost (opcodeKey .ccf)).1 = 4 := rfl

theorem exec_add_SP_e (e : Byte) (s : State) : exec (.add_SP_e e) s = done (opcodeKey (.add_SP_e e)) false (addSpOffset e s) := rfl
theorem cost_add_SP_e (e : Byte) : (tableCost (opcodeKey (.add_SP_e e))).1 = 16 := rfl

theorem exec_rlca (s : State) : exec .rlca s = done (opcodeKey .rlca) false (updateReg (rotateAccF .rlc) .a s) := rfl
theorem cost_rlca : (tableCost (opcodeKey .rlca)).1 = 4 := rfl

theorem exec_rrca (s : State) : exec .rrca s = done (opcodeKey .rrca) false (updateReg (rotateAccF .rrc) .a s) := rfl
theorem cost_rrca : (tableCost (opcodeKey .rrca)).1 = 4 := rfl

theorem exec_rla (s : State) : exec .rla s = done (opcodeKey .rla) false (updateReg (rotateAccF .rl) .a s) := rfl
theorem cost_rla : (tableCost (opcodeKey .rla)).1 = 4 := rfl

theorem exec_rra (s : State) : exec .rra s = done (opcodeKey .rra) false (updateReg (rotateAccF .rr) .a s) := rfl
theorem cost_rra : (tableCost (opcodeKey .rra)).1 = 4 := rfl

theorem exec_jp_nn (nn : Addr) (s : State) : exec (.jp_nn nn) s = done (opcodeKey (.jp_nn nn)) false (s.setPC nn) := rfl
theorem cost_jp_nn (nn : Addr) : (tableCost (opcodeKey (.jp_nn nn))).1 = 16 := rfl

theorem exec_jp_HL (s : State) : exec .jp_HL s = done (opcodeKey .jp_HL) false (s.setPC s.hl) := rfl
theorem cost_jp_HL : (tableCost (opcodeKey .jp_HL)).1 = 4 := rfl

theorem exec_jr_e (e : Byte) (s : State) : exec (.jr_e e) s = done (opcodeKey (.jr_e e)) false (jumpRel e s) := rfl
theorem cost_jr_e (e : Byte) : (tableCost (opcodeKey (.jr_e e))).1 = 12 := rfl

theorem exec_call_nn (nn : Addr) (s : State) : exec (.call_nn nn) s = done (opcodeKey (.call_nn nn)) false (callTo nn s) := rfl
theorem cost_call_nn (nn : Addr) : (tableCost (opcodeKey (.call_nn nn))).1 = 24 := rfl

theorem exec_ret (s : State) : exec .ret s = done (opcodeKey .ret) false (popPC s) := rfl
theorem cost_ret : (tableCost (opcodeKey .ret)).1 = 16 := rfl

theorem exec_reti (s : State) : exec .reti s = done (opcodeKey .reti) false (interruptReturn s) := rfl
theorem cost_reti : (tableCost (opcodeKey .reti)).1 = 16 := rfl

theorem exec_nop (s : State) : exec .nop s = done (opcodeKey .nop) false (s) := rfl
theorem cost_nop : (tableCost (opcodeKey .nop)).1 = 4 := rfl

theorem exec_halt (s : State) : exec .halt s = done (opcodeKey .halt) false (enterHalt s) := rfl
theorem cost_halt : (tableCost (opcodeKey .halt)).1 = 4 := rfl

theorem exec_stop (n : Byte) (s : State) : exec (.stop n) s = done (opcodeKey (.stop n)) false (stopOp n s) := rfl
theorem cost_stop (n : Byte) : (tableCost (opcodeKey (.stop n))).1 = 4 := rfl

theorem exec_di (s : State) : exec .di s = done (opcodeKey .di) false (disableInterrupts s) := rfl
theorem cost_di : (tableCost (opcodeKey .di)).1 = 4 := rfl

theorem exec_ei (s : State) : exec .ei s = done (opcodeKey .ei) false (enableInterrupts s) := rfl
theorem cost_ei : (tableCost (opcodeKey .ei)).1 = 4 := rfl

/-- The row of the prefix byte acts as the 0xCB table's entry for its second byte, at that entry's cost. -/
theorem exec_prefix (op2 : Byte) (s : State) : exec (.prefix_CB op2) s = exec (decodeExtended op2) s := by
  obtain ⟨⟨k, hk⟩⟩ := op2
  have : ∀ k : Fin 256, exec (.prefix_CB (BitVec.ofFin k)) s = exec (decodeExtended (BitVec.ofFin k)) s := by
    intro k; fin_cases k <;> rfl
  exact this ⟨k, hk⟩

theorem exec_undefined {op : Byte} {i : Instr} (h : UndefinedOpcode op i) (s : State) :
    exec i s = done (opcodeKey i) false (undefinedOp op s) := by cases h <;> rfl

end Sys2Proof.Machine
end

