-- ==== Sys2Proof/Laws/Arith.lean ====
section
/-! SUPPORT. Each result and flag computation against the spec's formula in plain arithmetic, and the instruction shapes that use them as record
updates. -/

namespace Sys2Proof.Machine

theorem byte_ofNat_eq_zero {n : Nat} (h : n < 256) : BitVec.ofNat 8 n = 0 ↔ n = 0 := by
  constructor
  · intro hz
    have := congrArg BitVec.toNat hz
    simpa [Nat.mod_eq_of_lt h] using this
  · rintro rfl; rfl

theorem add8_spec (a b : Byte) (c : Bool) :
    ((add8 a b c).res, packF (add8 a b c).z false (add8 a b c).h (add8 a b c).c) = specAdd a b c.toNat := by
  have h : BitVec.ofNat 8 (a.toNat + b.toNat + c.toNat) = BitVec.ofNat 8 ((a.toNat + b.toNat + c.toNat) % 256) := by
    apply BitVec.eq_of_toNat_eq; simp
  simp only [add8, specAdd, lowNibble_eq, h, byte_ofNat_eq_zero (Nat.mod_lt _ (by omega : 0 < 256))]

theorem sub8_spec (a b : Byte) (c : Bool) :
    ((sub8 a b c).res, packF (sub8 a b c).z true (sub8 a b c).h (sub8 a b c).c) = specSub a b c.toNat := by
  have ha := a.isLt
  have hb := b.isLt
  have hc : c.toNat ≤ 1 := by cases c <;> simp
  have h : BitVec.ofInt 8 ((a.toNat : Int) - b.toNat - c.toNat) =
      BitVec.ofNat 8 ((256 + 256 + a.toNat - b.toNat - c.toNat) % 256) := by
    apply BitVec.eq_of_toNat_eq; rw [BitVec.toNat_ofInt]; simp; omega
  simp only [sub8, specSub, lowNibble_eq, h, byte_ofNat_eq_zero (Nat.mod_lt _ (by omega : 0 < 256))]

theorem alu_add (a v f : Byte) : alu .add a v f = specAdd a v 0 := add8_spec a v false
theorem alu_adc (a v f : Byte) : alu .adc a v f = specAdd a v (fC f).toNat := add8_spec a v (fC f)
theorem alu_sub (a v f : Byte) : alu .sub a v f = specSub a v 0 := sub8_spec a v false
theorem alu_sbc (a v f : Byte) : alu .sbc a v f = specSub a v (fC f).toNat := sub8_spec a v (fC f)

theorem alu_cp (a v f : Byte) :
    alu .cp a v f = (a, packF (decide (a = v)) true (decide (a.toNat % 16 < v.toNat % 16)) (decide (a.toNat < v.toNat))) := by
  have ha := a.isLt
  have hb := v.isLt
  have h := congrArg Prod.snd (sub8_spec a v false)
  simp only [specSub, Bool.toNat_false, Nat.sub_zero, Nat.add_zero] at h
  have hz : (256 + 256 + a.toNat - v.toNat) % 256 = 0 ↔ a = v := by rw [← BitVec.toNat_inj]; omega
  simp only [hz] at h
  simp only [alu, h]

@[simp] theorem maskF_specAdd (a b : Byte) (c : Nat) : maskF (specAdd a b c).2 = (specAdd a b c).2 := by simp [specAdd]
@[simp] theorem maskF_specSub (a b : Byte) (c : Nat) : maskF (specSub a b c).2 = (specSub a b c).2 := by simp [specSub]

theorem inc8_spec (o f : Byte) :
    inc8 o f = (o + 1, packF (decide ((o.toNat + 1) % 256 = 0)) false (decide (o.toNat % 16 = 15)) (fC f)) := by
  simp only [inc8]
  generalize fC f = c
  revert o c
  exact byte_forall (by decide +kernel)

theorem dec8_spec (o f : Byte) :
    dec8 o f = (o - 1, packF (decide (o.toNat = 1)) true (decide (o.toNat % 16 = 0)) (fC f)) := by
  simp only [dec8]
  generalize fC f = c
  revert o c
  exact byte_forall (by decide +kernel)

theorem daa_spec (a f : Byte) :
    daa a f =
      (BitVec.ofNat 8 (specDaa a.toNat (fN f) (fH f) (fC f)).1,
        packF (decide ((specDaa a.toNat (fN f) (fH f) (fC f)).1 = 0)) (fN f) false (specDaa a.toNat (fN f) (fH f) (fC f)).2) := by
  simp only [daa, daaAdjust, daaCarry]
  obtain ⟨n, hn⟩ : ∃ n, fN f = n := ⟨_, rfl⟩
  obtain ⟨h, hh⟩ : ∃ h, fH f = h := ⟨_, rfl⟩
  obtain ⟨c, hc⟩ : ∃ c, fC f = c := ⟨_, rfl⟩
  simp only [hn, hh, hc]
  revert a
  have key : ∀ (n h c : Bool) (k : Fin 256),
      ((if n = true then (BitVec.ofFin k : Byte) - ((if h = true then 0x06#8 else 0) ||| (if c = true then 0x60#8 else 0))
        else BitVec.ofFin k + ((if h = true ∨ lowNibble (BitVec.ofFin k) > 0x09 then 0x06#8 else 0) |||
          (if c = true ∨ (BitVec.ofFin k : Byte).toNat > 0x99 then 0x60#8 else 0))) =
        BitVec.ofNat 8 (specDaa k.val n h c).1) ∧
      (if n = true then c else c || decide (k.val > 0x99)) = (specDaa k.val n h c).2 ∧ (specDaa k.val n h c).1 < 256 := by
    decide +kernel
  intro a
  obtain ⟨h1, h2, h3⟩ := key n h c a.toFin
  have h1' : (if n = true then a - (if n = true then (if h = true then 0x06#8 else 0) ||| (if c = true then 0x60#8 else 0)
      else (if h = true ∨ lowNibble a > 0x09 then 0x06#8 else 0) ||| (if c = true ∨ a.toNat > 0x99 then 0x60#8 else 0))
      else a + (if n = true then (if h = true then 0x06#8 else 0) ||| (if c = true then 0x60#8 else 0)
      else (if h = true ∨ lowNibble a > 0x09 then 0x06#8 else 0) ||| (if c = true ∨ a.toNat > 0x99 then 0x60#8 else 0))) =
      BitVec.ofNat 8 (specDaa a.toNat n h c).1 := by
    cases n <;> exact h1
  have h2' : (if n = true then c else c || decide (a.toNat > 0x99)) = (specDaa a.toNat n h c).2 := h2
  rw [h1', h2']
  simp only [byte_ofNat_eq_zero (show (specDaa a.toNat n h c).1 < 256 from h3)]

theorem rotate_spec (op : RotOp) (v : Byte) (c : Bool) :
    rotate op v c = (BitVec.ofNat 8 (specRotate op v.toNat c.toNat).1, (specRotate op v.toNat c.toNat).2) := by
  revert v
  cases op <;> cases c <;> exact byte_forall (by decide +kernel)

theorem specRotate_lt (op : RotOp) (v : Byte) (c : Bool) : (specRotate op v.toNat c.toNat).1 < 256 := by
  revert v
  cases op <;> cases c <;> exact byte_forall (by decide +kernel)

theorem rotateF_spec (op : RotOp) (v f : Byte) :
    rotateF op v f =
      (BitVec.ofNat 8 (specRotate op v.toNat (fC f).toNat).1,
        packF (decide ((specRotate op v.toNat (fC f).toNat).1 = 0)) false false (specRotate op v.toNat (fC f).toNat).2) := by
  simp only [rotateF, rotate_spec, byte_ofNat_eq_zero (specRotate_lt op v (fC f))]

theorem rotateAccF_spec (op : RotOp) (v f : Byte) :
    rotateAccF op v f =
      (BitVec.ofNat 8 (specRotate op v.toNat (fC f).toNat).1, packF false false false (specRotate op v.toNat (fC f).toNat).2) := by
  simp only [rotateAccF, rotate_spec]

theorem bitF_spec (b : Fin 8) (v f : Byte) : bitF b v f = packF (decide (v.toNat / 2 ^ b.val % 2 = 0)) false true (fC f) := by
  have h : ∀ v : Byte, ∀ b : Fin 8, (!bitOf v b.val) = decide (v.toNat / 2 ^ b.val % 2 = 0) := byte_forall (by decide +kernel)
  simp only [bitF, h]

theorem low12_eq (a : Addr) : low12 a = a.toNat % 4096 := by
  simp only [low12, BitVec.toNat_and]; exact Nat.and_two_pow_sub_one_eq_mod _ 12

/-- Bit `i` of `a ^ b ^ (a + b)` is the carry into bit `i` (43_alu16.md R240, "Equivalent form"). -/
theorem carry_into (a b : Addr) (i : Nat) (h : i < 16) :
    (a ^^^ b ^^^ (a + b)).getLsbD i = decide (a.toNat % 2 ^ i + b.toNat % 2 ^ i ≥ 2 ^ i) := by
  have hx : ∀ x y z : Bool, (x ^^ y ^^ (x ^^ (y ^^ z))) = z := by decide
  rw [BitVec.getLsbD_xor, BitVec.getLsbD_xor, BitVec.getLsbD_add h, hx]
  simp [BitVec.carry]

theorem addSp_spec (sp : Addr) (e : Byte) :
    addSp sp e =
      (sp + sext16 e,
        packF false false (decide (sp.toNat % 16 + e.toNat % 16 > 0xF)) (decide (sp.toNat % 256 + e.toNat > 0xFF))) := by
  have e1 : (sext16 e).toNat % 256 = e.toNat := by revert e; exact byte_forall (by decide +kernel)
  have e2 : (sext16 e).toNat % 16 = e.toNat % 16 := by omega
  have h4 : (sp ^^^ sext16 e ^^^ (sp + sext16 e)).getLsbD 4 = decide (sp.toNat % 16 + e.toNat % 16 > 0xF) := by
    rw [carry_into _ _ _ (by omega)]; apply decide_eq_decide.2; omega
  have h8 : (sp ^^^ sext16 e ^^^ (sp + sext16 e)).getLsbD 8 = decide (sp.toNat % 256 + e.toNat > 0xFF) := by
    rw [carry_into _ _ _ (by omega)]; apply decide_eq_decide.2; omega
  simp only [addSp, h4, h8]

/-- The high-page address as a sum (30_encoding.md R129: "equivalently"). -/
theorem highPage_eq (n : Byte) : highPage n = 0xFF00 + zext16 n := by
  apply BitVec.eq_of_toNat_eq
  have := n.isLt
  simp [highPage, toNat_mk16, zext16]; omega

/-! ### The shapes as record updates -/

theorem set8_setF (s : State) (r : Reg8) (v f : Byte) (h : maskF f = f) :
    (s.set8 r v).setF f = { s with regs := { s.regs.set8 r v with f := f } } := by
  simp [State.set8, State.setF, h]

theorem updateReg_eq {g : Byte → Byte → Byte × Byte} {r : Reg8} {s : State} {p : Byte × Byte} (hp : g (s.get8 r) s.regs.f = p)
    (hf : maskF p.2 = p.2) : updateReg g r s = { s with regs := { s.regs.set8 r p.1 with f := p.2 } } := by
  subst hp; simp only [updateReg]; exact set8_setF _ _ _ _ hf

theorem updateMem_eq {g : Byte → Byte → Byte × Byte} {s : State} {p : Byte × Byte} (hp : g (read8 s.hl s).1 s.regs.f = p)
    (hf : maskF p.2 = p.2) : updateMem g s = { write8 s.hl p.1 (read8 s.hl s).2 with regs := { s.regs with f := p.2 } } := by
  subst hp; simp [updateMem, State.setF, hf]

theorem aluWith_eq {op : AluOp} {v : Byte} {m s : State} {p : Byte × Byte} (hm : m.regs = s.regs)
    (hp : alu op s.regs.a v s.regs.f = p) (hf : maskF p.2 = p.2) :
    aluWith op v m = { m with regs := { s.regs with a := p.1, f := p.2 } } := by
  subst hp; simp only [aluWith, State.setF, State.set8, RegFile.set8, hm, hf]

end Sys2Proof.Machine
end

