-- ==== Sys2Proof/Laws/Families.lean ====
section
/-! SUPPORT. A property of every instruction, family by family: the induction principle that proofs over all instructions go through. -/

namespace Sys2Proof

/-- Every well-formed instruction is what the decoder makes of the bytes the encoder gives it. -/
theorem Instr.covered (i : Instr) (h : i.wf = true) :
    decodeBytes ((encode i).getD 0 0) ((encode i).getD 1 0) ((encode i).getD 2 0) = i := by
  cases i <;>
    first
    | rfl
    | exact Bool.noConfusion h
    | (simp only [encode, List.getD_cons_zero, List.getD_cons_succ, decodeBytes, Machine.mk16_hi8_lo8]; rfl)

/-- A property of each family is a property of every instruction. -/
theorem Instr.byFamily {P : Instr → Prop}
    (ldRegReg : ∀ rd rs, P (.ldRegReg rd rs)) (ldRegImm : ∀ r n, P (.ldRegImm r n)) (ldRegMem : ∀ r, P (.ldRegMem r))
    (ldMemReg : ∀ r, P (.ldMemReg r)) (ld_mHL_n : ∀ n, P (.ld_mHL_n n)) (ld_A_mBC : P .ld_A_mBC) (ld_A_mDE : P .ld_A_mDE)
    (ld_mBC_A : P .ld_mBC_A) (ld_mDE_A : P .ld_mDE_A) (ld_A_mnn : ∀ nn, P (.ld_A_mnn nn)) (ld_mnn_A : ∀ nn, P (.ld_mnn_A nn))
    (ldh_A_mn : ∀ n, P (.ldh_A_mn n)) (ldh_mn_A : ∀ n, P (.ldh_mn_A n)) (ldh_A_mC : P .ldh_A_mC) (ldh_mC_A : P .ldh_mC_A)
    (ld_A_mHLi : P .ld_A_mHLi) (ld_A_mHLd : P .ld_A_mHLd) (ld_mHLi_A : P .ld_mHLi_A) (ld_mHLd_A : P .ld_mHLd_A)
    (ldPairImm : ∀ p nn, P (.ldPairImm p nn)) (ld_mnn_SP : ∀ nn, P (.ld_mnn_SP nn)) (ld_SP_HL : P .ld_SP_HL)
    (ld_HL_SPe : ∀ e, P (.ld_HL_SPe e)) (push : ∀ p, P (.push p)) (pop : ∀ p, P (.pop p))
    (aluReg : ∀ op r, P (.aluReg op r)) (aluMem : ∀ op, P (.aluMem op)) (aluImm : ∀ op n, P (.aluImm op n))
    (incReg : ∀ r, P (.incReg r)) (inc_mHL : P .inc_mHL) (decReg : ∀ r, P (.decReg r)) (dec_mHL : P .dec_mHL)
    (daa : P .daa) (cpl : P .cpl) (scf : P .scf) (ccf : P .ccf)
    (addHL : ∀ p, P (.addHL p)) (incPair : ∀ p, P (.incPair p)) (decPair : ∀ p, P (.decPair p)) (add_SP_e : ∀ e, P (.add_SP_e e))
    (rlca : P .rlca) (rrca : P .rrca) (rla : P .rla) (rra : P .rra)
    (rotReg : ∀ op r, P (.rotReg op r)) (rotMem : ∀ op, P (.rotMem op)) (bitReg : ∀ b r, P (.bitReg b r)) (bitMem : ∀ b, P (.bitMem b))
    (resReg : ∀ b r, P (.resReg b r)) (resMem : ∀ b, P (.resMem b)) (setReg : ∀ b r, P (.setReg b r)) (setMem : ∀ b, P (.setMem b))
    (jp_nn : ∀ nn, P (.jp_nn nn)) (jpCond : ∀ cc nn, P (.jpCond cc nn)) (jp_HL : P .jp_HL)
    (jr_e : ∀ e, P (.jr_e e)) (jrCond : ∀ cc e, P (.jrCond cc e)) (call_nn : ∀ nn, P (.call_nn nn))
    (callCond : ∀ cc nn, P (.callCond cc nn)) (ret : P .ret) (retCond : ∀ cc, P (.retCond cc)) (rst : ∀ y, P (.rst y)) (reti : P .reti)
    (nop : P .nop) (halt : P .halt) (stop : ∀ n, P (.stop n)) (di : P .di) (ei : P .ei)
    (undefined_D3 : P .undefined_D3) (undefined_DB : P .undefined_DB) (undefined_DD : P .undefined_DD)
    (undefined_E3 : P .undefined_E3) (undefined_E4 : P .undefined_E4) (undefined_EB : P .undefined_EB)
    (undefined_EC : P .undefined_EC) (undefined_ED : P .undefined_ED) (undefined_F4 : P .undefined_F4)
    (undefined_FC : P .undefined_FC) (undefined_FD : P .undefined_FD)
    (prefix_CB : ∀ b, P (.prefix_CB b)) (i : Instr) : P i := by
  cases hwf : i.wf
  · cases i <;> first | exact prefix_CB _ | cases hwf
  · rw [← Instr.covered i hwf]
    generalize (encode i).getD 0 0 = op, (encode i).getD 1 0 = b1, (encode i).getD 2 0 = b2
    simp only [decodeBytes]
    split
    · simp only [decodeX0]
      split <;> (try split) <;> solve_by_elim
    · simp only [decodeX1]
      split <;> solve_by_elim
    · simp only [decodeX2]
      split <;> solve_by_elim
    · simp only [decodeX3, decodeExtended]
      split <;> (try split) <;> (try split) <;> solve_by_elim

end Sys2Proof
end

