-- ==== Sys2Proof/Laws/Effects.lean ====
section
/-! SUPPORT. What any instruction can do, said once: every instruction completes, and it leaves storage alone, or stores one byte, or stores
two bytes at neighbouring addresses. -/

namespace Sys2Proof.Machine

/-- The part of the state that loads and stores meet in. -/
structure Storage where
  ie     : Byte
  ifr    : Byte
  dma    : Byte
  wram   : Memory
  oam    : Memory
  hram   : Memory
  xram   : Memory
  mapper : MapperState
  cfg    : Config
deriving DecidableEq, Repr

/-- The storage of a state. -/
def storageOf (s : State) : Storage :=
  { ie := s.ie, ifr := s.ifr, dma := s.dma, wram := s.wram, oam := s.oam, hram := s.hram, xram := s.xram, mapper := s.mapper,
    cfg := s.cfg }

theorem OnlyDiagnostics.storageOf {s t : State} (h : OnlyDiagnostics s t) : storageOf t = storageOf s := by
  obtain ⟨_, _, _, rfl⟩ := h; rfl

theorem read8_storageOf (a : Addr) (s : State) : storageOf (read8 a s).2 = storageOf s := (read8_only a s).storageOf

theorem pop16_storageOf (s : State) : storageOf (pop16 s).2 = storageOf s :=
  (read8_storageOf (s.regs.sp + 1) (read8 s.regs.sp s).2).trans (read8_storageOf s.regs.sp s)

theorem fetch8_storageOf (s : State) : storageOf (fetch8 s).2 = storageOf s := read8_storageOf s.regs.pc s

@[simp] theorem storageOf_setPC (s : State) (v : Addr) : storageOf (s.setPC v) = storageOf s := rfl
@[simp] theorem storageOf_setSP (s : State) (v : Addr) : storageOf (s.setSP v) = storageOf s := rfl

theorem popPC_storageOf (s : State) : storageOf (popPC s) = storageOf s := by
  simp only [popPC, storageOf_setPC, pop16_storageOf]

theorem interruptReturn_storageOf (s : State) : storageOf (interruptReturn s) = storageOf s := by
  have h := popPC_storageOf s
  simp only [storageOf] at h
  simp only [interruptReturn, storageOf, h]

theorem callTo_storageOf (v : Addr) (s : State) : storageOf (callTo v s) = storageOf (push16 s.regs.pc s) := by
  simp only [callTo, storageOf_setPC]

theorem push16_storageOf (v : Addr) (s : State) :
    storageOf (push16 v s) = storageOf (write8 (s.regs.sp - 2) (lo8 v) (write8 (s.regs.sp - 1) (hi8 v) s)) := by
  simp only [push16, storageOf_setSP]

/-- What an instruction can do to storage. -/
def Effect (i : Instr) (s t : State) : Prop :=
  storageOf t = storageOf s ∨
  (∃ A v r, StoresAt i s A ∧ OnlyDiagnostics s r ∧ storageOf t = storageOf (write8 A v r)) ∨
  (∃ A B v w, StoresAt i s A ∧ StoresAt i s B ∧ (B = A + 1 ∨ A = B + 1) ∧ storageOf t = storageOf (write8 B w (write8 A v s)))

theorem Effect.none {i : Instr} {s t u : State} {k : Nat} {b : Bool} (h : done k b u = .next t) (hu : storageOf u = storageOf s) :
    Effect i s t := by cases h; exact .inl hu

theorem Effect.one {i : Instr} {s t u r : State} {k : Nat} {b : Bool} {A : Addr} {v : Byte} (h : done k b u = .next t)
    (hA : StoresAt i s A) (hr : OnlyDiagnostics s r) (hu : storageOf u = storageOf (write8 A v r)) : Effect i s t := by
  cases h; exact .inr (.inl ⟨A, v, r, hA, hr, hu⟩)

theorem Effect.two {i : Instr} {s t u : State} {k : Nat} {b : Bool} {A B : Addr} {v w : Byte} (h : done k b u = .next t)
    (hA : StoresAt i s A) (hB : StoresAt i s B) (hAB : B = A + 1 ∨ A = B + 1)
    (hu : storageOf u = storageOf (write8 B w (write8 A v s))) : Effect i s t := by
  cases h; exact .inr (.inr ⟨A, B, v, w, hA, hB, hAB, hu⟩)

theorem sp_neighbours (a : Addr) : a - 1 = a - 2 + 1 := by ring

theorem Effect.push {i : Instr} {s t u : State} {k : Nat} {b : Bool} {v : Addr} (h : done k b u = .next t)
    (hA : StoresAt i s (s.regs.sp - 1)) (hB : StoresAt i s (s.regs.sp - 2)) (hu : storageOf u = storageOf (push16 v s)) :
    Effect i s t :=
  Effect.two h hA hB (.inr (sp_neighbours _)) (hu.trans (push16_storageOf v s))

/-- A read-modify-write of the byte at `HL`. -/
theorem Effect.update {i : Instr} {s t : State} {k : Nat} {b : Bool} {f : Byte → Byte → Byte × Byte}
    (h : done k b (updateMem f s) = .next t) (hA : StoresAt i s s.hl) : Effect i s t :=
  Effect.one h hA (read8_only s.hl s) rfl

theorem Effect.map {i : Instr} {s t : State} {k : Nat} {b : Bool} {f : Byte → Byte}
    (h : done k b (mapMem f s) = .next t) (hA : StoresAt i s s.hl) : Effect i s t :=
  Effect.one h hA (read8_only s.hl s) rfl

theorem rot_effect {i : Instr} (op : RotOp) {s t : State} (hA : StoresAt i s s.hl) (h : exec (.rotMem op) s = .next t) :
    Effect i s t := by rw [exec_rotMem] at h; exact Effect.update h hA

/-- The 0xCB table's entries, as effects of an instruction that stores where they do. -/
theorem extended_effect {i : Instr} (op2 : Byte) {s t : State} (hA : ∀ A, StoresAt (decodeExtended op2) s A → StoresAt i s A)
    (h : exec (decodeExtended op2) s = .next t) : Effect i s t := by
  revert hA h
  simp only [decodeExtended]
  split <;> intro hA h
  · rw [exec_rotReg] at h; exact Effect.none h rfl
  · rw [exec_rotMem] at h; exact Effect.update h (hA _ (.rot _ s))
  · rw [exec_bitReg] at h; exact Effect.none h rfl
  · rw [exec_bitMem] at h; exact Effect.none h (read8_storageOf s.hl s)
  · rw [exec_resReg] at h; exact Effect.none h rfl
  · rw [exec_resMem] at h; exact Effect.map h (hA _ (.res _ s))
  · rw [exec_setReg] at h; exact Effect.none h rfl
  · rw [exec_setMem] at h; exact Effect.map h (hA _ (.set _ s))

theorem whenCond_next {k : Nat} {cc : Cond} {f : State → State} {s t : State} (h : whenCond k cc f s = .next t) :
    (s.cond cc = true ∧ done k true (f s) = .next t) ∨ (s.cond cc = false ∧ done k false s = .next t) := by
  simp only [whenCond] at h
  cases hc : s.cond cc <;> simp_all

/-- Every instruction has one of the three effects on storage. -/
theorem exec_effect (i : Instr) (s t : State) (h : exec i s = .next t) : Effect i s t := by
  induction i using Instr.byFamily with
  | ldRegReg rd rs => rw [exec_ldRegReg] at h; exact Effect.none h rfl
  | ldRegImm r n => rw [exec_ldRegImm] at h; exact Effect.none h rfl
  | ldRegMem r => rw [exec_ldRegMem] at h; exact Effect.none h (read8_storageOf s.hl s)
  | ldMemReg r => rw [exec_ldMemReg] at h; exact Effect.one h (.ldMemReg r s) (.refl s) rfl
  | ld_mHL_n n => rw [exec_ld_mHL_n] at h; exact Effect.one h (.ldMemImm n s) (.refl s) rfl
  | ld_A_mBC => rw [exec_ld_A_mBC] at h; exact Effect.none h (read8_storageOf s.bc s)
  | ld_A_mDE => rw [exec_ld_A_mDE] at h; exact Effect.none h (read8_storageOf s.de s)
  | ld_mBC_A => rw [exec_ld_mBC_A] at h; exact Effect.one h (.ldBC s) (.refl s) rfl
  | ld_mDE_A => rw [exec_ld_mDE_A] at h; exact Effect.one h (.ldDE s) (.refl s) rfl
  | ld_A_mnn nn => rw [exec_ld_A_mnn] at h; exact Effect.none h (read8_storageOf nn s)
  | ld_mnn_A nn => rw [exec_ld_mnn_A] at h; exact Effect.one h (.ldAbs nn s) (.refl s) rfl
  | ldh_A_mn n => rw [exec_ldh_A_mn] at h; exact Effect.none h (read8_storageOf (highPage n) s)
  | ldh_mn_A n => rw [exec_ldh_mn_A] at h; exact Effect.one h (.ldhImm n s) (.refl s) rfl
  | ldh_A_mC => rw [exec_ldh_A_mC] at h; exact Effect.none h (read8_storageOf (highPage s.regs.c) s)
  | ldh_mC_A => rw [exec_ldh_mC_A] at h; exact Effect.one h (.ldhC s) (.refl s) rfl
  | ld_A_mHLi => rw [exec_ld_A_mHLi] at h; exact Effect.none h (read8_storageOf s.hl s)
  | ld_A_mHLd => rw [exec_ld_A_mHLd] at h; exact Effect.none h (read8_storageOf s.hl s)
  | ld_mHLi_A => rw [exec_ld_mHLi_A] at h; exact Effect.one h (.ldInc s) (.refl s) rfl
  | ld_mHLd_A => rw [exec_ld_mHLd_A] at h; exact Effect.one h (.ldDec s) (.refl s) rfl
  | ldPairImm p nn => rw [exec_ldPairImm] at h; exact Effect.none h rfl
  | ld_mnn_SP nn => rw [exec_ld_mnn_SP] at h; exact Effect.two h (.spLow nn s) (.spHigh nn s) (.inl rfl) rfl
  | push p => rw [exec_push] at h; exact Effect.push h (.pushHigh p s) (.pushLow p s) rfl
  | pop p => rw [exec_pop] at h; exact Effect.none h (pop16_storageOf s)
  | aluReg op r => rw [exec_aluReg] at h; exact Effect.none h rfl
  | aluMem op => rw [exec_aluMem] at h; exact Effect.none h (read8_storageOf s.hl s)
  | aluImm op n => rw [exec_aluImm] at h; exact Effect.none h rfl
  | incReg r => rw [exec_incReg] at h; exact Effect.none h rfl
  | inc_mHL => rw [exec_inc_mHL] at h; exact Effect.update h (.inc s)
  | decReg r => rw [exec_decReg] at h; exact Effect.none h rfl
  | dec_mHL => rw [exec_dec_mHL] at h; exact Effect.update h (.dec s)
  | addHL p => rw [exec_addHL] at h; exact Effect.none h rfl
  | incPair p => rw [exec_incPair] at h; exact Effect.none h rfl
  | decPair p => rw [exec_decPair] at h; exact Effect.none h rfl
  | rotReg op r => rw [exec_rotReg] at h; exact Effect.none h rfl
  | rotMem op => rw [exec_rotMem] at h; exact Effect.update h (.rot op s)
  | bitReg b r => rw [exec_bitReg] at h; exact Effect.none h rfl
  | bitMem b => rw [exec_bitMem] at h; exact Effect.none h (read8_storageOf s.hl s)
  | resReg b r => rw [exec_resReg] at h; exact Effect.none h rfl
  | resMem b => rw [exec_resMem] at h; exact Effect.map h (.res b s)
  | setReg b r => rw [exec_setReg] at h; exact Effect.none h rfl
  | setMem b => rw [exec_setMem] at h; exact Effect.map h (.set b s)
  | jpCond cc nn =>
    rw [exec_jpCond] at h
    rcases whenCond_next h with ⟨_, h⟩ | ⟨_, h⟩ <;> exact Effect.none h rfl
  | jrCond cc e =>
    rw [exec_jrCond] at h
    rcases whenCond_next h with ⟨_, h⟩ | ⟨_, h⟩ <;> exact Effect.none h rfl
  | call_nn nn => rw [exec_call_nn] at h; exact Effect.push h (.callHigh nn s) (.callLow nn s) (callTo_storageOf nn s)
  | callCond cc nn =>
    rw [exec_callCond] at h
    rcases whenCond_next h with ⟨hc, h⟩ | ⟨_, h⟩
    · exact Effect.push h (.callCondHigh cc nn s hc) (.callCondLow cc nn s hc) (callTo_storageOf nn s)
    · exact Effect.none h rfl
  | ret => rw [exec_ret] at h; exact Effect.none h (popPC_storageOf s)
  | retCond cc =>
    rw [exec_retCond] at h
    rcases whenCond_next h with ⟨_, h⟩ | ⟨_, h⟩
    · exact Effect.none h (popPC_storageOf s)
    · exact Effect.none h rfl
  | rst y => rw [exec_rst] at h; exact Effect.push h (.rstHigh y s) (.rstLow y s) (callTo_storageOf _ s)
  | reti => rw [exec_reti] at h; exact Effect.none h (interruptReturn_storageOf s)
  | prefix_CB b => rw [exec_prefix] at h; exact extended_effect b (fun A hA => .extended b s A hA) h
  | ld_SP_HL => rw [exec_ld_SP_HL] at h; exact Effect.none h rfl
  | ld_HL_SPe e => rw [exec_ld_HL_SPe] at h; exact Effect.none h rfl
  | daa => rw [exec_daa] at h; exact Effect.none h rfl
  | cpl => rw [exec_cpl] at h; exact Effect.none h rfl
  | scf => rw [exec_scf] at h; exact Effect.none h rfl
  | ccf => rw [exec_ccf] at h; exact Effect.none h rfl
  | add_SP_e e => rw [exec_add_SP_e] at h; exact Effect.none h rfl
  | rlca => rw [exec_rlca] at h; exact Effect.none h rfl
  | rrca => rw [exec_rrca] at h; exact Effect.none h rfl
  | rla => rw [exec_rla] at h; exact Effect.none h rfl
  | rra => rw [exec_rra] at h; exact Effect.none h rfl
  | jp_nn nn => rw [exec_jp_nn] at h; exact Effect.none h rfl
  | jp_HL => rw [exec_jp_HL] at h; exact Effect.none h rfl
  | jr_e e => rw [exec_jr_e] at h; exact Effect.none h rfl
  | nop => rw [exec_nop] at h; exact Effect.none h rfl
  | halt => rw [exec_halt] at h; exact Effect.none h rfl
  | stop n => rw [exec_stop] at h; exact Effect.none h rfl
  | di => rw [exec_di] at h; exact Effect.none h rfl
  | ei => rw [exec_ei] at h; exact Effect.none h rfl
  | undefined_D3 => rw [exec_undefined .xD3] at h; exact Effect.none h rfl
  | undefined_DB => rw [exec_undefined .xDB] at h; exact Effect.none h rfl
  | undefined_DD => rw [exec_undefined .xDD] at h; exact Effect.none h rfl
  | undefined_E3 => rw [exec_undefined .xE3] at h; exact Effect.none h rfl
  | undefined_E4 => rw [exec_undefined .xE4] at h; exact Effect.none h rfl
  | undefined_EB => rw [exec_undefined .xEB] at h; exact Effect.none h rfl
  | undefined_EC => rw [exec_undefined .xEC] at h; exact Effect.none h rfl
  | undefined_ED => rw [exec_undefined .xED] at h; exact Effect.none h rfl
  | undefined_F4 => rw [exec_undefined .xF4] at h; exact Effect.none h rfl
  | undefined_FC => rw [exec_undefined .xFC] at h; exact Effect.none h rfl
  | undefined_FD => rw [exec_undefined .xFD] at h; exact Effect.none h rfl

/-! ### The flags' invariant -/

theorem set8_f (g : RegFile) (r : Reg8) (v : Byte) : (g.set8 r v).f = g.f := by cases r <;> rfl
theorem setRP_f (g : RegFile) (p : RP) (v : Addr) : (g.setRP p v).f = g.f := by cases p <;> rfl

/-- Every instruction keeps the low nibble of `F` zero (10_state.md R21). -/
theorem exec_flags (i : Instr) (s t : State) (hf : lowNibble s.regs.f = 0) (h : exec i s = .next t) : lowNibble t.regs.f = 0 := by
  have setF_ok : ∀ (u : State) (v : Byte), lowNibble (u.setF v).regs.f = 0 := fun u v => lowNibble_maskF v
  have done_ok : ∀ {k b} {u : State}, done k b u = .next t → lowNibble u.regs.f = 0 → lowNibble t.regs.f = 0 := by
    intro k b u h hu; cases h; exact hu
  have pop_f : ∀ u : State, (pop16 u).2.regs.f = u.regs.f := fun u => by rw [pop16_regs]
  have ext : ∀ op2, exec (decodeExtended op2) s = .next t → lowNibble t.regs.f = 0 := by
    intro op2 h
    revert h
    simp only [decodeExtended]
    split <;> intro h
    · rw [exec_rotReg] at h; exact done_ok h (setF_ok _ _)
    · rw [exec_rotMem] at h; exact done_ok h (setF_ok _ _)
    · rw [exec_bitReg] at h; exact done_ok h (setF_ok _ _)
    · rw [exec_bitMem] at h; exact done_ok h (setF_ok _ _)
    · rw [exec_resReg] at h; exact done_ok h (by simpa [mapReg, set8_f] using hf)
    · rw [exec_resMem] at h; exact done_ok h (by simpa [mapMem] using hf)
    · rw [exec_setReg] at h; exact done_ok h (by simpa [mapReg, set8_f] using hf)
    · rw [exec_setMem] at h; exact done_ok h (by simpa [mapMem] using hf)
  induction i using Instr.byFamily with
  | ldRegReg rd rs => rw [exec_ldRegReg] at h; exact done_ok h (by simpa [ldRegReg, set8_f] using hf)
  | ldRegImm r n => rw [exec_ldRegImm] at h; exact done_ok h (by simpa [ldRegImm, set8_f] using hf)
  | ldRegMem r => rw [exec_ldRegMem] at h; exact done_ok h (by simpa [ldRegFrom, set8_f] using hf)
  | ldMemReg r => rw [exec_ldMemReg] at h; exact done_ok h (by simpa [ldTo] using hf)
  | ldPairImm p nn => rw [exec_ldPairImm] at h; exact done_ok h (by simpa [setRP_f] using hf)
  | push p => rw [exec_push] at h; exact done_ok h (by simpa using hf)
  | pop p => rw [exec_pop] at h; exact done_ok h (by cases p <;> simp [popPair, State.setRP2, RegFile.setRP2, hf])
  | aluReg op r => rw [exec_aluReg] at h; exact done_ok h (setF_ok _ _)
  | aluMem op => rw [exec_aluMem] at h; exact done_ok h (setF_ok _ _)
  | aluImm op n => rw [exec_aluImm] at h; exact done_ok h (setF_ok _ _)
  | incReg r => rw [exec_incReg] at h; exact done_ok h (setF_ok _ _)
  | decReg r => rw [exec_decReg] at h; exact done_ok h (setF_ok _ _)
  | addHL p => rw [exec_addHL] at h; exact done_ok h (setF_ok _ _)
  | incPair p => rw [exec_incPair] at h; exact done_ok h (by simpa [setRP_f] using hf)
  | decPair p => rw [exec_decPair] at h; exact done_ok h (by simpa [setRP_f] using hf)
  | rotReg op r => rw [exec_rotReg] at h; exact done_ok h (setF_ok _ _)
  | rotMem op => rw [exec_rotMem] at h; exact done_ok h (setF_ok _ _)
  | bitReg b r => rw [exec_bitReg] at h; exact done_ok h (setF_ok _ _)
  | bitMem b => rw [exec_bitMem] at h; exact done_ok h (setF_ok _ _)
  | resReg b r => rw [exec_resReg] at h; exact done_ok h (by simpa [mapReg, set8_f] using hf)
  | resMem b => rw [exec_resMem] at h; exact done_ok h (by simpa [mapMem] using hf)
  | setReg b r => rw [exec_setReg] at h; exact done_ok h (by simpa [mapReg, set8_f] using hf)
  | setMem b => rw [exec_setMem] at h; exact done_ok h (by simpa [mapMem] using hf)
  | jpCond cc nn =>
    rw [exec_jpCond] at h
    rcases whenCond_next h with ⟨_, h⟩ | ⟨_, h⟩ <;> exact done_ok h hf
  | jrCond cc e =>
    rw [exec_jrCond] at h
    rcases whenCond_next h with ⟨_, h⟩ | ⟨_, h⟩ <;> exact done_ok h hf
  | callCond cc nn =>
    rw [exec_callCond] at h
    rcases whenCond_next h with ⟨_, h⟩ | ⟨_, h⟩
    · exact done_ok h (by simpa [callTo] using hf)
    · exact done_ok h hf
  | retCond cc =>
    rw [exec_retCond] at h
    rcases whenCond_next h with ⟨_, h⟩ | ⟨_, h⟩
    · exact done_ok h ((congrArg lowNibble (pop_f s)).trans hf)
    · exact done_ok h hf
  | rst y => rw [exec_rst] at h; exact done_ok h (by simpa [callTo] using hf)
  | prefix_CB b => rw [exec_prefix] at h; exact ext b h
  | ret => rw [exec_ret] at h; exact done_ok h ((congrArg lowNibble (pop_f s)).trans hf)
  | reti => rw [exec_reti] at h; exact done_ok h ((congrArg lowNibble (pop_f s)).trans hf)
  | ld_mHL_n n => rw [exec_ld_mHL_n] at h; exact done_ok h (by simpa [ldTo, ldRegFrom, ldAStep, stAStep, set8_f, setRP_f, callTo] using hf)
  | ld_A_mBC => rw [exec_ld_A_mBC] at h; exact done_ok h (by simpa [ldTo, ldRegFrom, ldAStep, stAStep, set8_f, setRP_f, callTo] using hf)
  | ld_A_mDE => rw [exec_ld_A_mDE] at h; exact done_ok h (by simpa [ldTo, ldRegFrom, ldAStep, stAStep, set8_f, setRP_f, callTo] using hf)
  | ld_mBC_A => rw [exec_ld_mBC_A] at h; exact done_ok h (by simpa [ldTo, ldRegFrom, ldAStep, stAStep, set8_f, setRP_f, callTo] using hf)
  | ld_mDE_A => rw [exec_ld_mDE_A] at h; exact done_ok h (by simpa [ldTo, ldRegFrom, ldAStep, stAStep, set8_f, setRP_f, callTo] using hf)
  | ld_A_mnn nn => rw [exec_ld_A_mnn] at h; exact done_ok h (by simpa [ldTo, ldRegFrom, ldAStep, stAStep, set8_f, setRP_f, callTo] using hf)
  | ld_mnn_A nn => rw [exec_ld_mnn_A] at h; exact done_ok h (by simpa [ldTo, ldRegFrom, ldAStep, stAStep, set8_f, setRP_f, callTo] using hf)
  | ldh_A_mn n => rw [exec_ldh_A_mn] at h; exact done_ok h (by simpa [ldTo, ldRegFrom, ldAStep, stAStep, set8_f, setRP_f, callTo] using hf)
  | ldh_mn_A n => rw [exec_ldh_mn_A] at h; exact done_ok h (by simpa [ldTo, ldRegFrom, ldAStep, stAStep, set8_f, setRP_f, callTo] using hf)
  | ldh_A_mC => rw [exec_ldh_A_mC] at h; exact done_ok h (by simpa [ldTo, ldRegFrom, ldAStep, stAStep, set8_f, setRP_f, callTo] using hf)
  | ldh_mC_A => rw [exec_ldh_mC_A] at h; exact done_ok h (by simpa [ldTo, ldRegFrom, ldAStep, stAStep, set8_f, setRP_f, callTo] using hf)
  | ld_A_mHLi => rw [exec_ld_A_mHLi] at h; exact done_ok h (by simpa [ldTo, ldRegFrom, ldAStep, stAStep, set8_f, setRP_f, callTo] using hf)
  | ld_A_mHLd => rw [exec_ld_A_mHLd] at h; exact done_ok h (by simpa [ldTo, ldRegFrom, ldAStep, stAStep, set8_f, setRP_f, callTo] using hf)
  | ld_mHLi_A => rw [exec_ld_mHLi_A] at h; exact done_ok h (by simpa [ldTo, ldRegFrom, ldAStep, stAStep, set8_f, setRP_f, callTo] using hf)
  | ld_mHLd_A => rw [exec_ld_mHLd_A] at h; exact done_ok h (by simpa [ldTo, ldRegFrom, ldAStep, stAStep, set8_f, setRP_f, callTo] using hf)
  | ld_mnn_SP nn => rw [exec_ld_mnn_SP] at h; exact done_ok h (by simpa [ldTo, ldRegFrom, ldAStep, stAStep, set8_f, setRP_f, callTo] using hf)
  | inc_mHL => rw [exec_inc_mHL] at h; exact done_ok h (setF_ok _ _)
  | dec_mHL => rw [exec_dec_mHL] at h; exact done_ok h (setF_ok _ _)
  | call_nn nn => rw [exec_call_nn] at h; exact done_ok h (by simpa [ldTo, ldRegFrom, ldAStep, stAStep, set8_f, setRP_f, callTo] using hf)
  | ld_SP_HL => rw [exec_ld_SP_HL] at h; exact done_ok h hf
  | ld_HL_SPe e => rw [exec_ld_HL_SPe] at h; exact done_ok h (setF_ok _ _)
  | daa => rw [exec_daa] at h; exact done_ok h (setF_ok _ _)
  | cpl => rw [exec_cpl] at h; exact done_ok h (setF_ok _ _)
  | scf => rw [exec_scf] at h; exact done_ok h (setF_ok _ _)
  | ccf => rw [exec_ccf] at h; exact done_ok h (setF_ok _ _)
  | add_SP_e e => rw [exec_add_SP_e] at h; exact done_ok h (setF_ok _ _)
  | rlca => rw [exec_rlca] at h; exact done_ok h (setF_ok _ _)
  | rrca => rw [exec_rrca] at h; exact done_ok h (setF_ok _ _)
  | rla => rw [exec_rla] at h; exact done_ok h (setF_ok _ _)
  | rra => rw [exec_rra] at h; exact done_ok h (setF_ok _ _)
  | jp_nn nn => rw [exec_jp_nn] at h; exact done_ok h hf
  | jp_HL => rw [exec_jp_HL] at h; exact done_ok h hf
  | jr_e e => rw [exec_jr_e] at h; exact done_ok h hf
  | nop => rw [exec_nop] at h; exact done_ok h hf
  | halt => rw [exec_halt] at h; exact done_ok h hf
  | stop n => rw [exec_stop] at h; exact done_ok h hf
  | di => rw [exec_di] at h; exact done_ok h hf
  | ei => rw [exec_ei] at h; exact done_ok h hf
  | undefined_D3 => rw [exec_undefined .xD3] at h; exact done_ok h hf
  | undefined_DB => rw [exec_undefined .xDB] at h; exact done_ok h hf
  | undefined_DD => rw [exec_undefined .xDD] at h; exact done_ok h hf
  | undefined_E3 => rw [exec_undefined .xE3] at h; exact done_ok h hf
  | undefined_E4 => rw [exec_undefined .xE4] at h; exact done_ok h hf
  | undefined_EB => rw [exec_undefined .xEB] at h; exact done_ok h hf
  | undefined_EC => rw [exec_undefined .xEC] at h; exact done_ok h hf
  | undefined_ED => rw [exec_undefined .xED] at h; exact done_ok h hf
  | undefined_F4 => rw [exec_undefined .xF4] at h; exact done_ok h hf
  | undefined_FC => rw [exec_undefined .xFC] at h; exact done_ok h hf
  | undefined_FD => rw [exec_undefined .xFD] at h; exact done_ok h hf

/-! ### The sum of cycle counts -/

theorem done_cycleTotal {k : Nat} {b : Bool} {u s t : State} (hu : u.cycleTotal = s.cycleTotal) (h : done k b u = .next t) :
    t.cycleTotal = s.cycleTotal := by cases h; exact hu

theorem whenCond_cycleTotal {k : Nat} {cc : Cond} {f : State → State} {s t : State} (hf : (f s).cycleTotal = s.cycleTotal)
    (h : whenCond k cc f s = .next t) : t.cycleTotal = s.cycleTotal := by
  obtain ⟨_, h⟩ | ⟨_, h⟩ := whenCond_next h
  · exact done_cycleTotal hf h
  · exact done_cycleTotal rfl h

/-- The rows of the 0xCB table leave the sum alone. -/
theorem extended_cycleTotal (op2 : Byte) (s t : State) (h : exec (decodeExtended op2) s = .next t) : t.cycleTotal = s.cycleTotal := by
  revert h
  simp only [decodeExtended]
  split <;> intro h <;>
    simp only [exec_rotReg, exec_rotMem, exec_bitReg, exec_bitMem,
      exec_resReg, exec_resMem, exec_setReg, exec_setMem] at h <;>
    refine done_cycleTotal ?_ h <;>
    simp [updateReg, updateMem, mapReg, mapMem, testBit, testBitMem]

/-- No instruction touches the sum of cycle counts (70_reset_and_hazards.md R375): the step alone adds to it. -/
theorem exec_cycleTotal (i : Instr) (s t : State) (h : exec i s = .next t) : t.cycleTotal = s.cycleTotal := by
  induction i using Instr.byFamily with
  | jpCond cc nn => rw [exec_jpCond] at h; exact whenCond_cycleTotal rfl h
  | jrCond cc e => rw [exec_jrCond] at h; exact whenCond_cycleTotal rfl h
  | callCond cc nn => rw [exec_callCond] at h; exact whenCond_cycleTotal (by simp [callTo]) h
  | retCond cc => rw [exec_retCond] at h; exact whenCond_cycleTotal (by simp [popPC]) h
  | prefix_CB b => rw [exec_prefix] at h; exact extended_cycleTotal b s t h
  | undefined_D3 => cases h; rfl
  | undefined_DB => cases h; rfl
  | undefined_DD => cases h; rfl
  | undefined_E3 => cases h; rfl
  | undefined_E4 => cases h; rfl
  | undefined_EB => cases h; rfl
  | undefined_EC => cases h; rfl
  | undefined_ED => cases h; rfl
  | undefined_F4 => cases h; rfl
  | undefined_FC => cases h; rfl
  | undefined_FD => cases h; rfl
  | _ =>
    simp only [exec_addHL, exec_add_SP_e, exec_aluImm, exec_aluMem, exec_aluReg, exec_call_nn, exec_ccf, exec_cpl, exec_daa, exec_decPair,
      exec_decReg, exec_dec_mHL, exec_di, exec_ei, exec_halt, exec_incPair, exec_incReg, exec_inc_mHL, exec_jp_HL, exec_jp_nn, exec_jr_e,
      exec_ldMemReg, exec_ldPairImm, exec_ldRegImm, exec_ldRegMem, exec_ldRegReg, exec_ld_A_mBC, exec_ld_A_mDE, exec_ld_A_mHLd,
      exec_ld_A_mHLi, exec_ld_A_mnn, exec_ld_HL_SPe, exec_ld_SP_HL, exec_ld_mBC_A, exec_ld_mDE_A, exec_ld_mHL_n, exec_ld_mHLd_A,
      exec_ld_mHLi_A, exec_ld_mnn_A, exec_ld_mnn_SP, exec_ldh_A_mC, exec_ldh_A_mn, exec_ldh_mC_A, exec_ldh_mn_A, exec_nop, exec_pop,
      exec_push, exec_ret, exec_reti, exec_rla, exec_rlca, exec_rra, exec_rrca, exec_rst, exec_scf, exec_stop, exec_rotReg, exec_rotMem,
      exec_bitReg, exec_bitMem, exec_resReg, exec_resMem, exec_setReg, exec_setMem] at h
    refine done_cycleTotal ?_ h
    simp [ldRegReg, ldRegImm, ldRegFrom, ldTo, ldAStep, stAStep, popPair, aluWith, aluMem, updateReg, updateMem, mapReg, mapMem, addHL,
      addSpOffset, ldHLSp, testBit, testBitMem, callTo, popPC, interruptReturn, jumpRel, enterHalt, stopOp, disableInterrupts,
      enableInterrupts]

end Sys2Proof.Machine
end

