-- ==== Sys2Proof/Laws/Cells.lean ====
section
/-! SUPPORT. Storage cells: a read of an address that no peripheral answers depends on storage alone; a read answers the cell that the
address designates, a store replaces it, and a store to one cell leaves every other cell alone. -/

namespace Sys2Proof.Machine

/-- The value of a cell, as a read answers it. -/
def cellValue (s : State) : Cell → Byte
  | .wram i => ramByte .wram s.wram i
  | .oam i => ramByte .oam s.oam i
  | .hram i => ramByte .hram s.hram i
  | .xram i => if halfByteRam s.mapper then 0xF0 ||| (ramByte .xram s.xram i &&& 0x0F) else ramByte .xram s.xram i
  | .ifr => s.ifr
  | .dma => s.dma
  | .ie => s.ie

/-- The state with a cell replaced, as a store writes it. -/
def setCell (s : State) (v : Byte) : Cell → State
  | .wram i => { s with wram := Memory.set s.wram i v }
  | .oam i => { s with oam := Memory.set s.oam i v }
  | .hram i => { s with hram := Memory.set s.hram i v }
  | .xram i => { s with xram := Memory.set s.xram i (if halfByteRam s.mapper then v &&& 0x0F else v) }
  | .ifr => { s with ifr := v }
  | .dma => { s with dma := v }
  | .ie => { s with ie := v }

/-- Which cell an address designates depends on the mapper state and the configuration alone. -/
theorem cellOf_congr {s t : State} (hm : t.mapper = s.mapper) (hc : t.cfg = s.cfg) (a : Addr) : cellOf t a = cellOf s a := by
  simp only [cellOf, cartRamIndex, hm, hc]

/-- A read of an address that no peripheral answers depends on storage alone. -/
theorem peek_congr {s t : State} (a : Addr) (h : storageOf t = storageOf s) (hp : isPort s a = false) : peek t a = peek s a := by
  simp only [storageOf, Storage.mk.injEq] at h
  obtain ⟨h1, h2, h3, h4, h5, h6, h7, h8, h9⟩ := h
  simp only [isPort] at hp
  simp only [peek, read8, h1, h2, h3, h4, h5, h6, h9, cartRomRead, cartRamRead, cartRomIndex, cartRamIndex, h7, h8]
  split <;> rename_i hr <;> simp only [hr] at hp <;> (try rfl)
  · rw [hp]; rfl
  · split
    · rfl
    · split
      · rfl
      · simp_all

/-- An address that designates a cell is no peripheral's. -/
theorem isPort_of_cell {s : State} {a : Addr} {c : Cell} (h : cellOf s a = some c) : isPort s a = false := by
  simp only [cellOf] at h
  simp only [isPort]
  cases hr : regionOf a <;> simp only [hr] at h ⊢
  · cases h
  · by_cases h1 : a = s.cfg.ifAddr
    · simp [h1]
    · by_cases h2 : a = s.cfg.dmaAddr
      · simp [h2]
      · simp [h1, h2] at h

/-- A read answers the value of the cell. -/
theorem peek_cell {s : State} {a : Addr} {c : Cell} (h : cellOf s a = some c) : peek s a = cellValue s c := by
  simp only [cellOf] at h
  simp only [peek, read8]
  cases hr : regionOf a <;> simp only [hr] at h ⊢
  case rom => cases h
  case vram => cases h
  case unusable => cases h
  case xram =>
    obtain ⟨i, hi, rfl⟩ := Option.map_eq_some_iff.1 h
    simp only [cartRamRead, hi, cellValue]
  case io =>
    split at h
    · next e => rw [if_pos e]; cases h; rfl
    · next e =>
      rw [if_neg e]
      split at h
      · next e => rw [if_pos e]; cases h; rfl
      · cases h
  all_goals cases h; rfl

/-- A store replaces the cell. -/
theorem writeCell_cell {s : State} {a : Addr} {c : Cell} (v : Byte) (h : cellOf s a = some c) : writeCell a v s = setCell s v c := by
  simp only [cellOf] at h
  simp only [writeCell]
  cases hr : regionOf a <;> simp only [hr] at h ⊢
  case rom => cases h
  case vram => cases h
  case unusable => cases h
  case xram =>
    obtain ⟨i, hi, rfl⟩ := Option.map_eq_some_iff.1 h
    simp only [cartRamWrite, hi, setCell]
  case io =>
    split at h
    · next e => rw [if_pos e]; cases h; rfl
    · next e =>
      rw [if_neg e]
      split at h
      · next e => rw [if_pos e]; cases h; rfl
      · cases h
  all_goals cases h; rfl

@[simp] theorem setCell_mapper (s : State) (v : Byte) (c : Cell) : (setCell s v c).mapper = s.mapper := by cases c <;> rfl
@[simp] theorem setCell_cfg (s : State) (v : Byte) (c : Cell) : (setCell s v c).cfg = s.cfg := by cases c <;> rfl

theorem ramByte_set_self (arr : RamArray) (m : Memory) (i : Nat) (v : Byte) : ramByte arr (Memory.set m i v) i = v := by
  simp [ramByte]

/-- Other cells keep their value. -/
theorem cellValue_setCell_ne (s : State) (v : Byte) {c d : Cell} (h : d ≠ c) : cellValue (setCell s v c) d = cellValue s d := by
  cases c <;> cases d <;> simp only [cellValue, setCell, ramByte] <;>
    first
    | rfl
    | exact absurd rfl h
    | (rw [Memory.get_set_ne _ _ (fun e => h (by rw [e]))] <;> rfl)

/-- A read of an address that designates no cell answers the image, or 0xFF. -/
theorem peek_noCell {s : State} {a : Addr} (h : cellOf s a = none) (hp : isPort s a = false) :
    peek s a = if regionOf a = .rom then cartRomRead s a else 0xFF := by
  simp only [cellOf] at h
  simp only [isPort] at hp
  simp only [peek, read8]
  cases hr : regionOf a <;> simp only [hr] at h hp ⊢
  case vram => rw [hp]; rfl
  case xram => simp only [cartRamRead, Option.map_eq_none_iff.1 h]; rfl
  case io =>
    split at h
    · cases h
    · split at h
      · cases h
      · simp_all
  all_goals first | rfl | cases h

/-- A store to an address that designates no cell, outside the ROM window, leaves storage alone. -/
theorem writeCell_noCell {s : State} {a : Addr} (v : Byte) (h : cellOf s a = none) (hr : regionOf a ≠ .rom) :
    storageOf (writeCell a v s) = storageOf s := by
  simp only [cellOf] at h
  simp only [writeCell]
  cases hq : regionOf a <;> simp only [hq] at h hr ⊢
  case rom => exact absurd rfl hr
  case vram => split <;> rfl
  case xram => simp only [cartRamWrite, Option.map_eq_none_iff.1 h]
  case unusable => rfl
  case io =>
    split at h
    · cases h
    · next h1 =>
      split at h
      · cases h
      · next h2 => simp only [if_neg h1, if_neg h2]; split <;> rfl
  all_goals cases h

/-- One byte of the DMA copy changes OAM alone. -/
theorem dmaByte_storageOf (b : Byte) (s : State) (i : Nat) (hi : i < dmaLength) :
    storageOf (dmaByte b s i) =
      { storageOf s with oam := Memory.set s.oam i (read8 (BitVec.ofNat 16 (b.toNat * 0x100 + i)) s).1 } := by
  have hi' : i < 160 := hi
  have hs := read8_storageOf (BitVec.ofNat 16 (b.toNat * 0x100 + i)) s
  have ho : (read8 (BitVec.ofNat 16 (b.toNat * 0x100 + i)) s).2.oam = s.oam := congrArg Storage.oam hs
  have hn : (BitVec.ofNat 16 (0xFE00 + i)).toNat = 0xFE00 + i := by rw [BitVec.toNat_ofNat]; omega
  have hr : regionOf (BitVec.ofNat 16 (0xFE00 + i)) = .oam := by rw [regionOf_iff, hn]; simp only [Region.bounds]; omega
  simp only [dmaByte, writeCell, hr, hn, Nat.add_sub_cancel_left, ho]
  rw [← hs]; rfl

/-- The DMA copy changes OAM alone. -/
theorem dmaCopy_storageOf (b : Byte) (s : State) : ∃ oam, storageOf (dmaCopy b s) = { storageOf s with oam := oam } := by
  refine dmaCopy_keeps (P := fun t => ∃ oam, storageOf t = { storageOf s with oam := oam }) b ?_ ⟨_, rfl⟩
  rintro t i hi ⟨oam, ht⟩
  exact ⟨_, by rw [dmaByte_storageOf b t i hi, ht]⟩

/-- Which addresses are peripherals' depends on the configuration alone. -/
theorem isPort_congr {s t : State} (hc : t.cfg = s.cfg) (a : Addr) : isPort t a = isPort s a := by simp only [isPort, hc]

theorem triggersDma_congr {s t : State} (hc : t.cfg = s.cfg) (a : Addr) : triggersDma a t = triggersDma a s := by
  simp only [triggersDma, hc]

/-- A change of OAM alone shows in OAM alone. -/
theorem peek_oam {s t : State} {oam : Memory} (h : storageOf t = { storageOf s with oam := oam }) {a : Addr} (hp : isPort s a = false)
    (ha : regionOf a ≠ .oam) : peek t a = peek s a := by
  have h' : storageOf ({ t with oam := s.oam } : State) = storageOf s := by
    simp only [storageOf, Storage.mk.injEq] at h ⊢
    obtain ⟨h1, h2, h3, h4, h5, h6, h7, h8, h9⟩ := h
    exact ⟨h1, h2, h3, h4, trivial, h6, h7, h8, h9⟩
  rw [← peek_congr a h' hp]
  simp only [peek, read8]
  cases hr : regionOf a
  case oam => exact absurd hr ha
  case vram => dsimp only; split <;> rfl
  case io => dsimp only; repeat' split
             all_goals rfl
  all_goals rfl

/-- What a store leaves alone: every address that `mayChange` does not give. -/
theorem write8_frame {s : State} {A a : Addr} (v : Byte) (hp : isPort s a = false) (hc : ¬ mayChange s A a) :
    peek (write8 A v s) a = peek s a := by
  simp only [mayChange, not_or, not_and] at hc
  obtain ⟨_, hcell, hdma, hrom⟩ := hc
  have hcfg := (writeCell_only A v s).cfg
  have main : peek (writeCell A v s) a = peek s a := by
    cases hA : cellOf s A with
    | some c =>
      rw [writeCell_cell v hA]
      have hne := hcell (by rw [hA]; exact fun e => nomatch e)
      have ht := cellOf_congr (setCell_mapper s v c) (setCell_cfg s v c) a
      cases ha : cellOf s a with
      | some d =>
        rw [hA, ha] at hne
        rw [peek_cell ha, peek_cell (ht.trans ha), cellValue_setCell_ne s v (fun e => hne (by rw [e]))]
      | none =>
        rw [peek_noCell ha hp, peek_noCell (ht.trans ha) ((isPort_congr (setCell_cfg s v c) a).trans hp)]
        simp only [cartRomRead, cartRomIndex, setCell_mapper, setCell_cfg]
    | none =>
      by_cases hr : regionOf A = .rom
      · have hn := hrom hr
        simp only [writeCell, hr, cartRomWrite, peek, read8]
        cases hq : regionOf a
        case rom => exact absurd hq hn.1
        case xram => exact absurd hq hn.2
        case vram => dsimp only; split <;> rfl
        case io => dsimp only; repeat' split
                   all_goals rfl
        all_goals rfl
      · exact peek_congr a (writeCell_noCell v hA hr) hp
  rw [write8]
  split
  · next ht =>
    obtain ⟨oam, ho⟩ := dmaCopy_storageOf v (writeCell A v s)
    rw [peek_oam ho ((isPort_congr hcfg a).trans hp) (hdma ht), main]
  · exact main

/-- A store outside the ROM window keeps the mapper state. -/
theorem write8_mapper {s : State} {A : Addr} (v : Byte) (h : regionOf A ≠ .rom) : (write8 A v s).mapper = s.mapper := by
  have main : (writeCell A v s).mapper = s.mapper := by
    cases hA : cellOf s A with
    | some c => rw [writeCell_cell v hA]; exact setCell_mapper s v c
    | none => exact congrArg Storage.mapper (writeCell_noCell v hA h)
  rw [write8]
  split
  · obtain ⟨oam, ho⟩ := dmaCopy_storageOf v (writeCell A v s)
    have h2 : (dmaCopy v (writeCell A v s)).mapper = (writeCell A v s).mapper := congrArg Storage.mapper ho
    exact h2.trans main
  · exact main

end Sys2Proof.Machine
end

