-- ==== Sys2Proof/Laws/Step.lean ====
section
/-! SUPPORT. What one step can do, said once: every instruction completes; fetching changes only `PC` and the diagnostic streams; a step is an
idle step, an interrupt entry, or the instruction at `PC`, and its count is summed. -/

namespace Sys2Proof.Machine

/-- No instruction stops. -/
theorem exec_total (i : Instr) (s : State) : ∃ t, exec i s = .next t := by
  cases i <;> exact ⟨_, rfl⟩

/-! ### Fetching -/

/-- What fetching can change: `PC` and what reads change. -/
def OnlyFetch (s t : State) : Prop :=
  ∃ pc an pl pr, t = { s with regs := { s.regs with pc := pc }, anomalies := an, portLog := pl, portReads := pr }

theorem OnlyFetch.trans {s t u : State} (h : OnlyFetch s t) (h' : OnlyFetch t u) : OnlyFetch s u := by
  obtain ⟨_, _, _, _, rfl⟩ := h
  obtain ⟨_, _, _, _, rfl⟩ := h'
  exact ⟨_, _, _, _, rfl⟩

theorem fetch8_only (s : State) : OnlyFetch s (fetch8 s).2 := by
  have h := read8_only s.regs.pc s
  obtain ⟨_, _, _, h⟩ := h
  simp only [fetch8, h]
  exact ⟨_, _, _, _, rfl⟩

theorem fetchInstr_only (s : State) : OnlyFetch s (fetchInstr s).2 := by
  simp only [fetchInstr]
  split
  · exact fetch8_only s
  · exact (fetch8_only s).trans (fetch8_only _)
  · exact ((fetch8_only s).trans (fetch8_only _)).trans (fetch8_only _)

theorem OnlyFetch.storageOf {s t : State} (h : OnlyFetch s t) : storageOf t = storageOf s := by obtain ⟨_, _, _, _, rfl⟩ := h; rfl
theorem OnlyFetch.f {s t : State} (h : OnlyFetch s t) : t.regs.f = s.regs.f := by obtain ⟨_, _, _, _, rfl⟩ := h; rfl
theorem OnlyFetch.cfg {s t : State} (h : OnlyFetch s t) : t.cfg = s.cfg := by obtain ⟨_, _, _, _, rfl⟩ := h; rfl
theorem OnlyFetch.ime {s t : State} (h : OnlyFetch s t) : t.ime = s.ime := by obtain ⟨_, _, _, _, rfl⟩ := h; rfl
theorem OnlyFetch.imePending {s t : State} (h : OnlyFetch s t) : t.imePending = s.imePending := by
  obtain ⟨_, _, _, _, rfl⟩ := h; rfl

theorem OnlyFetch.cycleTotal {s t : State} (h : OnlyFetch s t) : t.cycleTotal = s.cycleTotal := by
  obtain ⟨_, _, _, _, rfl⟩ := h; rfl

theorem fetchInstr_storageOf (s : State) : storageOf (fetchInstr s).2 = storageOf s := (fetchInstr_only s).storageOf

/-! ### The three kinds of step -/

/-- A step that answers is its phases with the count summed (70_reset_and_hazards.md R375). -/
theorem step_next {s t : State} : step s = .next t ↔ ∃ v, stepPhases s = .next v ∧ t = sumCycles v := by
  simp only [step]
  cases stepPhases s <;> simp [tally, eq_comm]

/-- The phases idle, take an interrupt, or run the instruction at `PC` (60_exceptions.md R320). -/
theorem stepPhases_cases {s t : State} (h : stepPhases s = .next t) :
    ((beginStep s).halted = true ∧ (beginStep s).pending = 0 ∧ t = idleStep (beginStep s)) ∨
    ((wake (beginStep s)).ime = true ∧ (beginStep s).pending ≠ 0 ∧
      t = interruptEntry (beginStep s).pending (wake (beginStep s))) ∨
    (∃ u, u = promoteIme (wake (beginStep s)) ∧ exec (fetchInstr u).1 (fetchInstr u).2 = .next t) := by
  simp only [stepPhases] at h
  split at h
  · next hh => cases h; exact .inl ⟨hh.1, hh.2, rfl⟩
  · split at h
    · next hh => cases h; exact .inr (.inl ⟨hh.1, hh.2, rfl⟩)
    · exact .inr (.inr ⟨_, rfl, h⟩)

/-- The phases always answer. -/
theorem stepPhases_total (s : State) : ∃ t, stepPhases s = .next t := by
  simp only [stepPhases]
  split
  · exact ⟨_, rfl⟩
  · split
    · exact ⟨_, rfl⟩
    · exact exec_total _ _

/-- Interrupt entry, written out (60_exceptions.md R333). -/
theorem interruptEntry_eq (pend : Byte) (s : State) :
    interruptEntry pend s =
      { write8 (s.regs.sp - 2) (lo8 s.regs.pc)
          (write8 (s.regs.sp - 1) (hi8 s.regs.pc)
            { s with ifr := clearBit s.ifr (lowestPending pend).index, ime := false, imePending := false }) with
        regs := { s.regs with sp := s.regs.sp - 2, pc := vectorOf s.cfg.vectors (lowestPending pend) }
        halted := false, cycles := 20 } := by
  simp only [interruptEntry, push16_cfg]
  simp only [push16, State.setPC, State.setSP, write8_regs, entryCycles]

theorem promoteIme_eq (s : State) : promoteIme s = { s with ime := s.ime || s.imePending, imePending := false } := by
  cases h : s.imePending
  · obtain ⟨⟩ := s; simp_all [promoteIme]
  · simp [promoteIme, h]

theorem takeRequests_storageOf (s : State) : storageOf (takeRequests s) = { storageOf s with ifr := (takeRequests s).ifr } := by
  simp only [takeRequests]; split <;> rfl

@[simp] theorem takeRequests_regs (s : State) : (takeRequests s).regs = s.regs := by simp only [takeRequests]; split <;> rfl
@[simp] theorem takeRequests_cfg (s : State) : (takeRequests s).cfg = s.cfg := by simp only [takeRequests]; split <;> rfl

@[simp] theorem takeRequests_cycleTotal (s : State) : (takeRequests s).cycleTotal = s.cycleTotal := by
  simp only [takeRequests]; split <;> rfl

/-- Well-formed storage is a property of `storageOf`, whatever `IF`, `IE` and `DMA` hold. -/
theorem StorageOk.of_storageOf {s t : State} (hs : StorageOk s) (h : storageOf t = storageOf s) : StorageOk t := by
  simp only [storageOf, Storage.mk.injEq] at h
  obtain ⟨_, _, _, h1, h2, h3, h4, h5, h6⟩ := h
  exact hs.congr h1 h2 h3 h4 h5 h6

/-- Interrupt entry keeps well-formed storage. -/
theorem interruptEntry_storageOk {s : State} (pend : Byte) (h : StorageOk s) : StorageOk (interruptEntry pend s) := by
  have h1 : StorageOk { s with ifr := clearBit s.ifr (lowestPending pend).index, ime := false, imePending := false } :=
    h.congr rfl rfl rfl rfl rfl rfl
  have h2 := write8_storageOk (s.regs.sp - 2) (lo8 s.regs.pc) (write8_storageOk (s.regs.sp - 1) (hi8 s.regs.pc) h1)
  rw [interruptEntry_eq]
  revert h2
  generalize write8 (s.regs.sp - 2) _ _ = w
  intro h2
  exact h2.congr rfl rfl rfl rfl rfl rfl

/-- Every instruction keeps well-formed storage. -/
theorem exec_storageOk {i : Instr} {s t : State} (hs : StorageOk s) (h : exec i s = .next t) : StorageOk t := by
  rcases exec_effect i s t h with h | ⟨A, v, r, _, hr, h⟩ | ⟨A, B, v, w, _, _, _, h⟩
  · exact hs.of_storageOf h
  · exact (write8_storageOk A v (hr.storageOk hs)).of_storageOf h
  · exact (write8_storageOk B w (write8_storageOk A v hs)).of_storageOf h

end Sys2Proof.Machine
end

