-- ==== Sys2Proof/Tests/Slice0.lean ====
section
/-! SUPPORT. Tests: ill-formed terms the checks refuse, every encoding of the spec's grids, one step on the spec's vectors
(95_test_vectors.md, 96_test_vectors_system.md), and for each statement with hypotheses a concrete instance that meets them. -/

set_option Elab.async false

namespace Sys2Proof.Tests

open Sys2Proof.Machine

/-! ### Well-formedness: each check refuses an ill-formed term -/

theorem test_wf_refuses_prefix_row : (Instr.prefix_CB 0x37).wf = false := by decide
theorem test_wf_admits_nop : Instr.nop.wf = true := by decide
theorem test_rom_wf_refuses_unsorted : RomImage.wf { size := 0x150, bytes := [(5, 1), (4, 1)] } = false := by decide
theorem test_rom_wf_refuses_repeat : RomImage.wf { size := 0x150, bytes := [(5, 1), (5, 2)] } = false := by decide
theorem test_rom_wf_refuses_outside : RomImage.wf { size := 0x150, bytes := [(0x150, 1)] } = false := by decide
theorem test_rom_wf_refuses_listed_zero : RomImage.wf { size := 0x150, bytes := [(5, 0)] } = false := by decide
theorem test_cfg_wf_admits_blank : Config.blank.wf = true := by decide
theorem test_cfg_wf_refuses_bad_image : Config.wf { Config.blank with rom := { size := 0x8000, bytes := [(5, 0)] } } = false := by decide
theorem test_cfg_wf_refuses_short_image : Config.wf { Config.blank with rom := { size := 0x14F, bytes := [] } } = false := by decide
theorem test_cfg_wf_refuses_no_bank : Config.wf { Config.blank with romBanks := 0 } = false := by decide
theorem test_cfg_wf_refuses_preload_length : Config.wf { Config.blank with xramSize := 2, xramInit := some [0x12] } = false := by decide
theorem test_cfg_wf_refuses_if_outside : Config.wf { Config.blank with ifAddr := 0xFF80 } = false := by decide
theorem test_cfg_wf_refuses_dma_outside : Config.wf { Config.blank with dmaAddr := 0xFEFF } = false := by decide
theorem test_cfg_wf_refuses_shared_io : Config.wf { Config.blank with dmaAddr := 0xFF0F } = false := by decide
theorem test_memory_wf_refuses_unsorted : Memory.wf [(3, 0), (2, 0)] = false := by decide
theorem test_memory_wf_refuses_outside : Memory.wfBelow 127 [(127, 0)] = false := by decide

/-! ### Decoding: every word of the grids of 30_encoding.md R131 and R132 -/

/-- Bytes that decode to exactly one instruction. -/
def decodesTo (bytes : List Byte) (i : Instr) : Bool :=
  match decode bytes with
  | .ok (j, []) => decide (j = i)
  | .ok (_, _ :: _) => false
  | .error _ => false

/-- A row of a grid: bytes beside the instruction they stand for. -/
def allDecode (row : List (List Byte × Instr)) : Bool := row.all (fun p => decodesTo p.1 p.2)

theorem test_decode_0x : allDecode
    [([0x00], .nop), ([0x01, 0x34, 0x12], .ld_BC_nn 0x1234), ([0x02], .ld_mBC_A), ([0x03], .inc_BC),
     ([0x04], .inc_B), ([0x05], .dec_B), ([0x06, 0xA5], .ld_B_n 0xA5), ([0x07], .rlca),
     ([0x08, 0x34, 0x12], .ld_mnn_SP 0x1234), ([0x09], .add_HL_BC), ([0x0A], .ld_A_mBC), ([0x0B], .dec_BC),
     ([0x0C], .inc_C), ([0x0D], .dec_C), ([0x0E, 0xA5], .ld_C_n 0xA5), ([0x0F], .rrca)] = true := by decide +kernel
theorem test_decode_1x : allDecode
    [([0x10, 0xA5], .stop 0xA5), ([0x11, 0x34, 0x12], .ld_DE_nn 0x1234), ([0x12], .ld_mDE_A), ([0x13], .inc_DE),
     ([0x14], .inc_D), ([0x15], .dec_D), ([0x16, 0xA5], .ld_D_n 0xA5), ([0x17], .rla),
     ([0x18, 0xFE], .jr_e 0xFE), ([0x19], .add_HL_DE), ([0x1A], .ld_A_mDE), ([0x1B], .dec_DE),
     ([0x1C], .inc_E), ([0x1D], .dec_E), ([0x1E, 0xA5], .ld_E_n 0xA5), ([0x1F], .rra)] = true := by decide +kernel
theorem test_decode_2x : allDecode
    [([0x20, 0xFE], .jr_NZ_e 0xFE), ([0x21, 0x34, 0x12], .ld_HL_nn 0x1234), ([0x22], .ld_mHLi_A), ([0x23], .inc_HL),
     ([0x24], .inc_H), ([0x25], .dec_H), ([0x26, 0xA5], .ld_H_n 0xA5), ([0x27], .daa),
     ([0x28, 0xFE], .jr_Z_e 0xFE), ([0x29], .add_HL_HL), ([0x2A], .ld_A_mHLi), ([0x2B], .dec_HL),
     ([0x2C], .inc_L), ([0x2D], .dec_L), ([0x2E, 0xA5], .ld_L_n 0xA5), ([0x2F], .cpl)] = true := by decide +kernel
theorem test_decode_3x : allDecode
    [([0x30, 0xFE], .jr_NC_e 0xFE), ([0x31, 0x34, 0x12], .ld_SP_nn 0x1234), ([0x32], .ld_mHLd_A), ([0x33], .inc_SP),
     ([0x34], .inc_mHL), ([0x35], .dec_mHL), ([0x36, 0xA5], .ld_mHL_n 0xA5), ([0x37], .scf),
     ([0x38, 0xFE], .jr_C_e 0xFE), ([0x39], .add_HL_SP), ([0x3A], .ld_A_mHLd), ([0x3B], .dec_SP),
     ([0x3C], .inc_A), ([0x3D], .dec_A), ([0x3E, 0xA5], .ld_A_n 0xA5), ([0x3F], .ccf)] = true := by decide +kernel
theorem test_decode_4x : allDecode
    [([0x40], .ld_B_B), ([0x41], .ld_B_C), ([0x42], .ld_B_D), ([0x43], .ld_B_E),
     ([0x44], .ld_B_H), ([0x45], .ld_B_L), ([0x46], .ld_B_mHL), ([0x47], .ld_B_A),
     ([0x48], .ld_C_B), ([0x49], .ld_C_C), ([0x4A], .ld_C_D), ([0x4B], .ld_C_E),
     ([0x4C], .ld_C_H), ([0x4D], .ld_C_L), ([0x4E], .ld_C_mHL), ([0x4F], .ld_C_A)] = true := by decide +kernel
theorem test_decode_5x : allDecode
    [([0x50], .ld_D_B), ([0x51], .ld_D_C), ([0x52], .ld_D_D), ([0x53], .ld_D_E),
     ([0x54], .ld_D_H), ([0x55], .ld_D_L), ([0x56], .ld_D_mHL), ([0x57], .ld_D_A),
     ([0x58], .ld_E_B), ([0x59], .ld_E_C), ([0x5A], .ld_E_D), ([0x5B], .ld_E_E),
     ([0x5C], .ld_E_H), ([0x5D], .ld_E_L), ([0x5E], .ld_E_mHL), ([0x5F], .ld_E_A)] = true := by decide +kernel
theorem test_decode_6x : allDecode
    [([0x60], .ld_H_B), ([0x61], .ld_H_C), ([0x62], .ld_H_D), ([0x63], .ld_H_E),
     ([0x64], .ld_H_H), ([0x65], .ld_H_L), ([0x66], .ld_H_mHL), ([0x67], .ld_H_A),
     ([0x68], .ld_L_B), ([0x69], .ld_L_C), ([0x6A], .ld_L_D), ([0x6B], .ld_L_E),
     ([0x6C], .ld_L_H), ([0x6D], .ld_L_L), ([0x6E], .ld_L_mHL), ([0x6F], .ld_L_A)] = true := by decide +kernel
theorem test_decode_7x : allDecode
    [([0x70], .ld_mHL_B), ([0x71], .ld_mHL_C), ([0x72], .ld_mHL_D), ([0x73], .ld_mHL_E),
     ([0x74], .ld_mHL_H), ([0x75], .ld_mHL_L), ([0x76], .halt), ([0x77], .ld_mHL_A),
     ([0x78], .ld_A_B), ([0x79], .ld_A_C), ([0x7A], .ld_A_D), ([0x7B], .ld_A_E),
     ([0x7C], .ld_A_H), ([0x7D], .ld_A_L), ([0x7E], .ld_A_mHL), ([0x7F], .ld_A_A)] = true := by decide +kernel
theorem test_decode_8x : allDecode
    [([0x80], .add_A_B), ([0x81], .add_A_C), ([0x82], .add_A_D), ([0x83], .add_A_E),
     ([0x84], .add_A_H), ([0x85], .add_A_L), ([0x86], .add_A_mHL), ([0x87], .add_A_A),
     ([0x88], .adc_A_B), ([0x89], .adc_A_C), ([0x8A], .adc_A_D), ([0x8B], .adc_A_E),
     ([0x8C], .adc_A_H), ([0x8D], .adc_A_L), ([0x8E], .adc_A_mHL), ([0x8F], .adc_A_A)] = true := by decide +kernel
theorem test_decode_9x : allDecode
    [([0x90], .sub_B), ([0x91], .sub_C), ([0x92], .sub_D), ([0x93], .sub_E),
     ([0x94], .sub_H), ([0x95], .sub_L), ([0x96], .sub_mHL), ([0x97], .sub_A),
     ([0x98], .sbc_A_B), ([0x99], .sbc_A_C), ([0x9A], .sbc_A_D), ([0x9B], .sbc_A_E),
     ([0x9C], .sbc_A_H), ([0x9D], .sbc_A_L), ([0x9E], .sbc_A_mHL), ([0x9F], .sbc_A_A)] = true := by decide +kernel
theorem test_decode_Ax : allDecode
    [([0xA0], .and_B), ([0xA1], .and_C), ([0xA2], .and_D), ([0xA3], .and_E),
     ([0xA4], .and_H), ([0xA5], .and_L), ([0xA6], .and_mHL), ([0xA7], .and_A),
     ([0xA8], .xor_B), ([0xA9], .xor_C), ([0xAA], .xor_D), ([0xAB], .xor_E),
     ([0xAC], .xor_H), ([0xAD], .xor_L), ([0xAE], .xor_mHL), ([0xAF], .xor_A)] = true := by decide +kernel
theorem test_decode_Bx : allDecode
    [([0xB0], .or_B), ([0xB1], .or_C), ([0xB2], .or_D), ([0xB3], .or_E),
     ([0xB4], .or_H), ([0xB5], .or_L), ([0xB6], .or_mHL), ([0xB7], .or_A),
     ([0xB8], .cp_B), ([0xB9], .cp_C), ([0xBA], .cp_D), ([0xBB], .cp_E),
     ([0xBC], .cp_H), ([0xBD], .cp_L), ([0xBE], .cp_mHL), ([0xBF], .cp_A)] = true := by decide +kernel
theorem test_decode_Cx : allDecode
    [([0xC0], .ret_NZ), ([0xC1], .pop_BC), ([0xC2, 0x34, 0x12], .jp_NZ_nn 0x1234), ([0xC3, 0x34, 0x12], .jp_nn 0x1234),
     ([0xC4, 0x34, 0x12], .call_NZ_nn 0x1234), ([0xC5], .push_BC), ([0xC6, 0xA5], .add_A_n 0xA5), ([0xC7], .rst_00H),
     ([0xC8], .ret_Z), ([0xC9], .ret), ([0xCA, 0x34, 0x12], .jp_Z_nn 0x1234), ([0xCC, 0x34, 0x12], .call_Z_nn 0x1234),
     ([0xCD, 0x34, 0x12], .call_nn 0x1234), ([0xCE, 0xA5], .adc_A_n 0xA5), ([0xCF], .rst_08H)] = true := by decide +kernel
theorem test_decode_Dx : allDecode
    [([0xD0], .ret_NC), ([0xD1], .pop_DE), ([0xD2, 0x34, 0x12], .jp_NC_nn 0x1234), ([0xD3], .undefined_D3),
     ([0xD4, 0x34, 0x12], .call_NC_nn 0x1234), ([0xD5], .push_DE), ([0xD6, 0xA5], .sub_n 0xA5), ([0xD7], .rst_10H),
     ([0xD8], .ret_C), ([0xD9], .reti), ([0xDA, 0x34, 0x12], .jp_C_nn 0x1234), ([0xDB], .undefined_DB),
     ([0xDC, 0x34, 0x12], .call_C_nn 0x1234), ([0xDD], .undefined_DD), ([0xDE, 0xA5], .sbc_A_n 0xA5), ([0xDF], .rst_18H)] = true := by decide +kernel
theorem test_decode_Ex : allDecode
    [([0xE0, 0xA5], .ldh_mn_A 0xA5), ([0xE1], .pop_HL), ([0xE2], .ldh_mC_A), ([0xE3], .undefined_E3),
     ([0xE4], .undefined_E4), ([0xE5], .push_HL), ([0xE6, 0xA5], .and_n 0xA5), ([0xE7], .rst_20H),
     ([0xE8, 0xFE], .add_SP_e 0xFE), ([0xE9], .jp_HL), ([0xEA, 0x34, 0x12], .ld_mnn_A 0x1234), ([0xEB], .undefined_EB),
     ([0xEC], .undefined_EC), ([0xED], .undefined_ED), ([0xEE, 0xA5], .xor_n 0xA5), ([0xEF], .rst_28H)] = true := by decide +kernel
theorem test_decode_Fx : allDecode
    [([0xF0, 0xA5], .ldh_A_mn 0xA5), ([0xF1], .pop_AF), ([0xF2], .ldh_A_mC), ([0xF3], .di),
     ([0xF4], .undefined_F4), ([0xF5], .push_AF), ([0xF6, 0xA5], .or_n 0xA5), ([0xF7], .rst_30H),
     ([0xF8, 0xFE], .ld_HL_SPe 0xFE), ([0xF9], .ld_SP_HL), ([0xFA, 0x34, 0x12], .ld_A_mnn 0x1234), ([0xFB], .ei),
     ([0xFC], .undefined_FC), ([0xFD], .undefined_FD), ([0xFE, 0xA5], .cp_n 0xA5), ([0xFF], .rst_38H)] = true := by decide +kernel
theorem test_decode_CB_0x : allDecode
    [([0xCB, 0x00], .rlc_B), ([0xCB, 0x01], .rlc_C), ([0xCB, 0x02], .rlc_D), ([0xCB, 0x03], .rlc_E),
     ([0xCB, 0x04], .rlc_H), ([0xCB, 0x05], .rlc_L), ([0xCB, 0x06], .rlc_mHL), ([0xCB, 0x07], .rlc_A),
     ([0xCB, 0x08], .rrc_B), ([0xCB, 0x09], .rrc_C), ([0xCB, 0x0A], .rrc_D), ([0xCB, 0x0B], .rrc_E),
     ([0xCB, 0x0C], .rrc_H), ([0xCB, 0x0D], .rrc_L), ([0xCB, 0x0E], .rrc_mHL), ([0xCB, 0x0F], .rrc_A)] = true := by decide +kernel
theorem test_decode_CB_1x : allDecode
    [([0xCB, 0x10], .rl_B), ([0xCB, 0x11], .rl_C), ([0xCB, 0x12], .rl_D), ([0xCB, 0x13], .rl_E),
     ([0xCB, 0x14], .rl_H), ([0xCB, 0x15], .rl_L), ([0xCB, 0x16], .rl_mHL), ([0xCB, 0x17], .rl_A),
     ([0xCB, 0x18], .rr_B), ([0xCB, 0x19], .rr_C), ([0xCB, 0x1A], .rr_D), ([0xCB, 0x1B], .rr_E),
     ([0xCB, 0x1C], .rr_H), ([0xCB, 0x1D], .rr_L), ([0xCB, 0x1E], .rr_mHL), ([0xCB, 0x1F], .rr_A)] = true := by decide +kernel
theorem test_decode_CB_2x : allDecode
    [([0xCB, 0x20], .sla_B), ([0xCB, 0x21], .sla_C), ([0xCB, 0x22], .sla_D), ([0xCB, 0x23], .sla_E),
     ([0xCB, 0x24], .sla_H), ([0xCB, 0x25], .sla_L), ([0xCB, 0x26], .sla_mHL), ([0xCB, 0x27], .sla_A),
     ([0xCB, 0x28], .sra_B), ([0xCB, 0x29], .sra_C), ([0xCB, 0x2A], .sra_D), ([0xCB, 0x2B], .sra_E),
     ([0xCB, 0x2C], .sra_H), ([0xCB, 0x2D], .sra_L), ([0xCB, 0x2E], .sra_mHL), ([0xCB, 0x2F], .sra_A)] = true := by decide +kernel
theorem test_decode_CB_3x : allDecode
    [([0xCB, 0x30], .swap_B), ([0xCB, 0x31], .swap_C), ([0xCB, 0x32], .swap_D), ([0xCB, 0x33], .swap_E),
     ([0xCB, 0x34], .swap_H), ([0xCB, 0x35], .swap_L), ([0xCB, 0x36], .swap_mHL), ([0xCB, 0x37], .swap_A),
     ([0xCB, 0x38], .srl_B), ([0xCB, 0x39], .srl_C), ([0xCB, 0x3A], .srl_D), ([0xCB, 0x3B], .srl_E),
     ([0xCB, 0x3C], .srl_H), ([0xCB, 0x3D], .srl_L), ([0xCB, 0x3E], .srl_mHL), ([0xCB, 0x3F], .srl_A)] = true := by decide +kernel
theorem test_decode_CB_4x : allDecode
    [([0xCB, 0x40], .bit_0_B), ([0xCB, 0x41], .bit_0_C), ([0xCB, 0x42], .bit_0_D), ([0xCB, 0x43], .bit_0_E),
     ([0xCB, 0x44], .bit_0_H), ([0xCB, 0x45], .bit_0_L), ([0xCB, 0x46], .bit_0_mHL), ([0xCB, 0x47], .bit_0_A),
     ([0xCB, 0x48], .bit_1_B), ([0xCB, 0x49], .bit_1_C), ([0xCB, 0x4A], .bit_1_D), ([0xCB, 0x4B], .bit_1_E),
     ([0xCB, 0x4C], .bit_1_H), ([0xCB, 0x4D], .bit_1_L), ([0xCB, 0x4E], .bit_1_mHL), ([0xCB, 0x4F], .bit_1_A)] = true := by decide +kernel
theorem test_decode_CB_5x : allDecode
    [([0xCB, 0x50], .bit_2_B), ([0xCB, 0x51], .bit_2_C), ([0xCB, 0x52], .bit_2_D), ([0xCB, 0x53], .bit_2_E),
     ([0xCB, 0x54], .bit_2_H), ([0xCB, 0x55], .bit_2_L), ([0xCB, 0x56], .bit_2_mHL), ([0xCB, 0x57], .bit_2_A),
     ([0xCB, 0x58], .bit_3_B), ([0xCB, 0x59], .bit_3_C), ([0xCB, 0x5A], .bit_3_D), ([0xCB, 0x5B], .bit_3_E),
     ([0xCB, 0x5C], .bit_3_H), ([0xCB, 0x5D], .bit_3_L), ([0xCB, 0x5E], .bit_3_mHL), ([0xCB, 0x5F], .bit_3_A)] = true := by decide +kernel
theorem test_decode_CB_6x : allDecode
    [([0xCB, 0x60], .bit_4_B), ([0xCB, 0x61], .bit_4_C), ([0xCB, 0x62], .bit_4_D), ([0xCB, 0x63], .bit_4_E),
     ([0xCB, 0x64], .bit_4_H), ([0xCB, 0x65], .bit_4_L), ([0xCB, 0x66], .bit_4_mHL), ([0xCB, 0x67], .bit_4_A),
     ([0xCB, 0x68], .bit_5_B), ([0xCB, 0x69], .bit_5_C), ([0xCB, 0x6A], .bit_5_D), ([0xCB, 0x6B], .bit_5_E),
     ([0xCB, 0x6C], .bit_5_H), ([0xCB, 0x6D], .bit_5_L), ([0xCB, 0x6E], .bit_5_mHL), ([0xCB, 0x6F], .bit_5_A)] = true := by decide +kernel
theorem test_decode_CB_7x : allDecode
    [([0xCB, 0x70], .bit_6_B), ([0xCB, 0x71], .bit_6_C), ([0xCB, 0x72], .bit_6_D), ([0xCB, 0x73], .bit_6_E),
     ([0xCB, 0x74], .bit_6_H), ([0xCB, 0x75], .bit_6_L), ([0xCB, 0x76], .bit_6_mHL), ([0xCB, 0x77], .bit_6_A),
     ([0xCB, 0x78], .bit_7_B), ([0xCB, 0x79], .bit_7_C), ([0xCB, 0x7A], .bit_7_D), ([0xCB, 0x7B], .bit_7_E),
     ([0xCB, 0x7C], .bit_7_H), ([0xCB, 0x7D], .bit_7_L), ([0xCB, 0x7E], .bit_7_mHL), ([0xCB, 0x7F], .bit_7_A)] = true := by decide +kernel
theorem test_decode_CB_8x : allDecode
    [([0xCB, 0x80], .res_0_B), ([0xCB, 0x81], .res_0_C), ([0xCB, 0x82], .res_0_D), ([0xCB, 0x83], .res_0_E),
     ([0xCB, 0x84], .res_0_H), ([0xCB, 0x85], .res_0_L), ([0xCB, 0x86], .res_0_mHL), ([0xCB, 0x87], .res_0_A),
     ([0xCB, 0x88], .res_1_B), ([0xCB, 0x89], .res_1_C), ([0xCB, 0x8A], .res_1_D), ([0xCB, 0x8B], .res_1_E),
     ([0xCB, 0x8C], .res_1_H), ([0xCB, 0x8D], .res_1_L), ([0xCB, 0x8E], .res_1_mHL), ([0xCB, 0x8F], .res_1_A)] = true := by decide +kernel
theorem test_decode_CB_9x : allDecode
    [([0xCB, 0x90], .res_2_B), ([0xCB, 0x91], .res_2_C), ([0xCB, 0x92], .res_2_D), ([0xCB, 0x93], .res_2_E),
     ([0xCB, 0x94], .res_2_H), ([0xCB, 0x95], .res_2_L), ([0xCB, 0x96], .res_2_mHL), ([0xCB, 0x97], .res_2_A),
     ([0xCB, 0x98], .res_3_B), ([0xCB, 0x99], .res_3_C), ([0xCB, 0x9A], .res_3_D), ([0xCB, 0x9B], .res_3_E),
     ([0xCB, 0x9C], .res_3_H), ([0xCB, 0x9D], .res_3_L), ([0xCB, 0x9E], .res_3_mHL), ([0xCB, 0x9F], .res_3_A)] = true := by decide +kernel
theorem test_decode_CB_Ax : allDecode
    [([0xCB, 0xA0], .res_4_B), ([0xCB, 0xA1], .res_4_C), ([0xCB, 0xA2], .res_4_D), ([0xCB, 0xA3], .res_4_E),
     ([0xCB, 0xA4], .res_4_H), ([0xCB, 0xA5], .res_4_L), ([0xCB, 0xA6], .res_4_mHL), ([0xCB, 0xA7], .res_4_A),
     ([0xCB, 0xA8], .res_5_B), ([0xCB, 0xA9], .res_5_C), ([0xCB, 0xAA], .res_5_D), ([0xCB, 0xAB], .res_5_E),
     ([0xCB, 0xAC], .res_5_H), ([0xCB, 0xAD], .res_5_L), ([0xCB, 0xAE], .res_5_mHL), ([0xCB, 0xAF], .res_5_A)] = true := by decide +kernel
theorem test_decode_CB_Bx : allDecode
    [([0xCB, 0xB0], .res_6_B), ([0xCB, 0xB1], .res_6_C), ([0xCB, 0xB2], .res_6_D), ([0xCB, 0xB3], .res_6_E),
     ([0xCB, 0xB4], .res_6_H), ([0xCB, 0xB5], .res_6_L), ([0xCB, 0xB6], .res_6_mHL), ([0xCB, 0xB7], .res_6_A),
     ([0xCB, 0xB8], .res_7_B), ([0xCB, 0xB9], .res_7_C), ([0xCB, 0xBA], .res_7_D), ([0xCB, 0xBB], .res_7_E),
     ([0xCB, 0xBC], .res_7_H), ([0xCB, 0xBD], .res_7_L), ([0xCB, 0xBE], .res_7_mHL), ([0xCB, 0xBF], .res_7_A)] = true := by decide +kernel
theorem test_decode_CB_Cx : allDecode
    [([0xCB, 0xC0], .set_0_B), ([0xCB, 0xC1], .set_0_C), ([0xCB, 0xC2], .set_0_D), ([0xCB, 0xC3], .set_0_E),
     ([0xCB, 0xC4], .set_0_H), ([0xCB, 0xC5], .set_0_L), ([0xCB, 0xC6], .set_0_mHL), ([0xCB, 0xC7], .set_0_A),
     ([0xCB, 0xC8], .set_1_B), ([0xCB, 0xC9], .set_1_C), ([0xCB, 0xCA], .set_1_D), ([0xCB, 0xCB], .set_1_E),
     ([0xCB, 0xCC], .set_1_H), ([0xCB, 0xCD], .set_1_L), ([0xCB, 0xCE], .set_1_mHL), ([0xCB, 0xCF], .set_1_A)] = true := by decide +kernel
theorem test_decode_CB_Dx : allDecode
    [([0xCB, 0xD0], .set_2_B), ([0xCB, 0xD1], .set_2_C), ([0xCB, 0xD2], .set_2_D), ([0xCB, 0xD3], .set_2_E),
     ([0xCB, 0xD4], .set_2_H), ([0xCB, 0xD5], .set_2_L), ([0xCB, 0xD6], .set_2_mHL), ([0xCB, 0xD7], .set_2_A),
     ([0xCB, 0xD8], .set_3_B), ([0xCB, 0xD9], .set_3_C), ([0xCB, 0xDA], .set_3_D), ([0xCB, 0xDB], .set_3_E),
     ([0xCB, 0xDC], .set_3_H), ([0xCB, 0xDD], .set_3_L), ([0xCB, 0xDE], .set_3_mHL), ([0xCB, 0xDF], .set_3_A)] = true := by decide +kernel
theorem test_decode_CB_Ex : allDecode
    [([0xCB, 0xE0], .set_4_B), ([0xCB, 0xE1], .set_4_C), ([0xCB, 0xE2], .set_4_D), ([0xCB, 0xE3], .set_4_E),
     ([0xCB, 0xE4], .set_4_H), ([0xCB, 0xE5], .set_4_L), ([0xCB, 0xE6], .set_4_mHL), ([0xCB, 0xE7], .set_4_A),
     ([0xCB, 0xE8], .set_5_B), ([0xCB, 0xE9], .set_5_C), ([0xCB, 0xEA], .set_5_D), ([0xCB, 0xEB], .set_5_E),
     ([0xCB, 0xEC], .set_5_H), ([0xCB, 0xED], .set_5_L), ([0xCB, 0xEE], .set_5_mHL), ([0xCB, 0xEF], .set_5_A)] = true := by decide +kernel
theorem test_decode_CB_Fx : allDecode
    [([0xCB, 0xF0], .set_6_B), ([0xCB, 0xF1], .set_6_C), ([0xCB, 0xF2], .set_6_D), ([0xCB, 0xF3], .set_6_E),
     ([0xCB, 0xF4], .set_6_H), ([0xCB, 0xF5], .set_6_L), ([0xCB, 0xF6], .set_6_mHL), ([0xCB, 0xF7], .set_6_A),
     ([0xCB, 0xF8], .set_7_B), ([0xCB, 0xF9], .set_7_C), ([0xCB, 0xFA], .set_7_D), ([0xCB, 0xFB], .set_7_E),
     ([0xCB, 0xFC], .set_7_H), ([0xCB, 0xFD], .set_7_L), ([0xCB, 0xFE], .set_7_mHL), ([0xCB, 0xFF], .set_7_A)] = true := by decide +kernel

/-! One word a family, field by field from the patterns of the rules. -/

theorem test_bits_ld_r_r : decodesTo [0b01#2 ++ 0b011#3 ++ 0b100#3] .ld_E_H = true := by decide +kernel
theorem test_bits_ld_r_n : decodesTo [0b00#2 ++ 0b101#3 ++ 0b110#3, 0x9C] (.ld_L_n 0x9C) = true := by decide +kernel
theorem test_bits_ld_rp_nn : decodesTo [0b00#2 ++ 0b10#2 ++ 0b0001#4, 0xCD, 0xAB] (.ld_HL_nn 0xABCD) = true := by decide +kernel
theorem test_bits_push : decodesTo [0b11#2 ++ 0b11#2 ++ 0b0101#4] .push_AF = true := by decide +kernel
theorem test_bits_alu : decodesTo [0b10#2 ++ 0b101#3 ++ 0b001#3] .xor_C = true := by decide +kernel
theorem test_bits_alu_n : decodesTo [0b11#2 ++ 0b010#3 ++ 0b110#3, 0x0F] (.sub_n 0x0F) = true := by decide +kernel
theorem test_bits_inc_dec : decodesTo [0b00#2 ++ 0b111#3 ++ 0b101#3] .dec_A = true := by decide +kernel
theorem test_bits_add_hl : decodesTo [0b00#2 ++ 0b11#2 ++ 0b1001#4] .add_HL_SP = true := by decide +kernel
theorem test_bits_rotate : decodesTo [0xCB, 0b00#2 ++ 0b101#3 ++ 0b010#3] .sra_D = true := by decide +kernel
theorem test_bits_bit : decodesTo [0xCB, 0b01#2 ++ 0b100#3 ++ 0b101#3] .bit_4_L = true := by decide +kernel
theorem test_bits_res : decodesTo [0xCB, 0b10#2 ++ 0b001#3 ++ 0b110#3] .res_1_mHL = true := by decide +kernel
theorem test_bits_set : decodesTo [0xCB, 0b11#2 ++ 0b110#3 ++ 0b011#3] .set_6_E = true := by decide +kernel
theorem test_bits_jr_cc : decodesTo [0b001#3 ++ 0b10#2 ++ 0b000#3, 0x7F] (.jr_NC_e 0x7F) = true := by decide +kernel
theorem test_bits_call_cc : decodesTo [0b110#3 ++ 0b01#2 ++ 0b100#3, 0x34, 0x12] (.call_Z_nn 0x1234) = true := by decide +kernel
theorem test_bits_ret_cc : decodesTo [0b110#3 ++ 0b11#2 ++ 0b000#3] .ret_C = true := by decide +kernel
theorem test_bits_rst : decodesTo [0b11#2 ++ 0b101#3 ++ 0b111#3] .rst_28H = true := by decide +kernel
theorem test_bits_halt : decodesTo [0b01#2 ++ 0b110#3 ++ 0b110#3] .halt = true := by decide +kernel

/-- The row of the prefix byte has no second byte in the table: with zeros above, its bytes are those of `RLC B` (R139). -/
theorem test_table_word_prefix : decodeTableWord 8 0xCB = some .rlc_B := by decide +kernel
theorem test_table_word_cb : decodeTableWord 16 0xCB37 = some .swap_A := by decide +kernel
theorem test_table_word_imm : decodeTableWord 8 0xC3 = some (.jp_nn 0x0000) := by decide +kernel
theorem test_decode_empty : (match decode [] with | .error e => decide (e = .empty) | .ok _ => false) = true := by decide
theorem test_decode_truncated :
    (match decode [0x01, 0x34] with | .error e => decide (e = .truncated 0x01) | .ok _ => false) = true := by decide

/-! ### One step on the spec's vectors -/

/-- The register file after reset. -/
def power : RegFile := RegFile.reset

/-- The reset state with a register file, bytes of memory and bytes at `PC` given, and further fields set. -/
def start (bytes : List Byte) (g : RegFile) (mem : List (Addr × Byte)) (f : State → State) : State :=
  placeAtFetch bytes (f (mem.foldl (fun s c => placeByte c.1 c.2 s) { State.reset with regs := g }))

/-- The next state, of a step that has one. -/
def nextOf (s : State) : State :=
  match step s with
  | .next t => t
  | .fault _ => s
  | .refused _ => s

/-- One step from `start`. -/
def after (bytes : List Byte) (g : RegFile) (mem : List (Addr × Byte)) (f : State → State) : State := nextOf (start bytes g mem f)

/-! 8-bit loads: 95_test_vectors.md V40. -/

theorem test_ld_B_C_V40_1 :
    (fun t : State => (t.regs.b, t.cycles)) (after [0x41] { power with b := 0x12, c := 0x34 } [] id) =
      (0x34, 4) := by decide +kernel
theorem test_ld_L_n_V40_3 :
    (fun t : State => (t.regs.l, t.cycles)) (after [0x2E, 0xFF] power [] id) =
      (0xFF, 8) := by decide +kernel
theorem test_ld_E_mHL_V40_4 :
    (fun t : State => (t.regs.e, t.cycles)) (after [0x5E] { power with h := 0xC0, l := 0x00 } [(0xC000, 0x5A)] id) =
      (0x5A, 8) := by decide +kernel
theorem test_ld_H_mHL_V40_5 :
    (fun t : State => (t.regs.h, t.cycles)) (after [0x66] { power with h := 0xC0, l := 0x00 } [(0xC000, 0xD0)] id) =
      (0xD0, 8) := by decide +kernel
theorem test_ld_mHL_A_V40_6 :
    (fun t : State => (peek t 0xC123, t.cycles)) (after [0x77] { power with h := 0xC1, l := 0x23, a := 0x99 } [] id) =
      (0x99, 8) := by decide +kernel
theorem test_ld_mHL_L_V40_7 :
    (fun t : State => (peek t 0xC123, t.cycles)) (after [0x75] { power with h := 0xC1, l := 0x23 } [] id) =
      (0x23, 8) := by decide +kernel
theorem test_ld_mHL_n_V40_8 :
    (fun t : State => (peek t 0xFF80, t.cycles)) (after [0x36, 0x42] { power with h := 0xFF, l := 0x80 } [] id) =
      (0x42, 12) := by decide +kernel
theorem test_ld_A_mBC_V40_9 :
    (fun t : State => (t.regs.a, t.cycles)) (after [0x0A] { power with b := 0xC0, c := 0x10 } [(0xC010, 0x77)] id) =
      (0x77, 8) := by decide +kernel
theorem test_ld_A_mDE_V40_10 :
    (fun t : State => (t.regs.a, t.cycles)) (after [0x1A] { power with d := 0xFE, e := 0x9F } [(0xFE9F, 0x21)] id) =
      (0x21, 8) := by decide +kernel
theorem test_ld_mBC_A_V40_11 :
    (fun t : State => (peek t 0xC200, t.cycles)) (after [0x02] { power with b := 0xC2, c := 0x00, a := 0x01 } [] id) =
      (0x01, 8) := by decide +kernel
theorem test_ld_mDE_A_V40_13 :
    (fun t : State => (peek t 0xC010, t.cycles)) (after [0x12] { power with d := 0xE0, e := 0x10, a := 0xA5 } [] id) =
      (0xA5, 8) := by decide +kernel
theorem test_ld_A_mnn_V40_14 :
    (fun t : State => (t.regs.a, t.cycles)) (after [0xFA, 0x00, 0xC0] power [(0xC000, 0x3C)] id) =
      (0x3C, 16) := by decide +kernel
theorem test_ld_mnn_A_V40_15 :
    (fun t : State => (peek t 0xD234, t.cycles)) (after [0xEA, 0x34, 0xD2] { power with a := 0x05 } [] id) =
      (0x05, 16) := by decide +kernel
theorem test_ldh_A_mn_V40_16 :
    (fun t : State => (t.regs.a, t.cycles)) (after [0xF0, 0xFF] power [] (fun s => { s with ie := 0x1F })) =
      (0x1F, 12) := by decide +kernel
theorem test_ldh_mn_A_V40_17 :
    (fun t : State => (t.ifr, t.cycles)) (after [0xE0, 0x0F] { power with a := 0x04 } [] id) =
      (0x04, 12) := by decide +kernel
theorem test_ldh_A_mC_V40_20 :
    (fun t : State => (t.regs.a, t.cycles)) (after [0xF2] { power with c := 0x80 } [(0xFF80, 0xAB)] id) =
      (0xAB, 8) := by decide +kernel
theorem test_ldh_mC_A_V40_21 :
    (fun t : State => (t.ie, t.cycles)) (after [0xE2] { power with c := 0xFF, a := 0x01 } [] id) =
      (0x01, 8) := by decide +kernel
theorem test_ld_A_mHLi_V40_23 :
    (fun t : State => (t.regs.a, t.regs.h, t.regs.l, t.cycles)) (after [0x2A] { power with h := 0xFF, l := 0xFF } [] (fun s => { s with ie := 0x15 })) =
      (0x15, 0x00, 0x00, 8) := by decide +kernel
theorem test_ld_A_mHLd_V40_24 :
    (fun t : State => (t.regs.a, t.regs.h, t.regs.l, t.cycles)) (after [0x3A] { power with h := 0x00, l := 0x00 } [(0x0000, 0x3C)] id) =
      (0x3C, 0xFF, 0xFF, 8) := by decide +kernel
theorem test_ld_mHLi_A_V40_25 :
    (fun t : State => (t.regs.l, peek t 0xC000, t.cycles)) (after [0x22] { power with h := 0xC0, l := 0x00, a := 0x33 } [] id) =
      (0x01, 0x33, 8) := by decide +kernel
theorem test_ld_mHLd_A_V40_26 :
    (fun t : State => (t.regs.l, peek t 0xDFFF, t.cycles)) (after [0x32] { power with h := 0xDF, l := 0xFF, a := 0x44 } [] id) =
      (0xFE, 0x44, 8) := by decide +kernel

/-! 16-bit loads and the stack: 95_test_vectors.md V41. -/

theorem test_ld_HL_nn_V41_1 :
    (fun t : State => (t.regs.h, t.regs.l, t.cycles)) (after [0x21, 0x34, 0x12] power [] id) =
      (0x12, 0x34, 12) := by decide +kernel
theorem test_ld_SP_nn_V41_2 :
    (fun t : State => (t.regs.sp, t.cycles)) (after [0x31, 0x00, 0xD0] power [] id) =
      (0xD000, 12) := by decide +kernel
theorem test_ld_mnn_SP_V41_3 :
    (fun t : State => (peek t 0xC100, peek t 0xC101, t.cycles)) (after [0x08, 0x00, 0xC1] { power with sp := 0xFFF8 } [] id) =
      (0xF8, 0xFF, 20) := by decide +kernel
theorem test_ld_SP_HL_V41_5 :
    (fun t : State => (t.regs.sp, t.cycles)) (after [0xF9] { power with h := 0xD0, l := 0x00 } [] id) =
      (0xD000, 8) := by decide +kernel
theorem test_ld_HL_SPe_V41_8 :
    (fun t : State => (t.regs.f, t.cycles)) (after [0xF8, 0xFF] { power with sp := 0x0001 } [] id) =
      (0x30, 12) := by decide +kernel
theorem test_pop_AF_V41_10 :
    (fun t : State => (t.regs.a, t.regs.f, t.regs.sp, t.cycles)) (after [0xF1] { power with sp := 0xC000 } [(0xC000, 0xFF), (0xC001, 0x12)] id) =
      (0x12, 0xF0, 0xC002, 12) := by decide +kernel
theorem test_push_AF_V41_11 :
    (fun t : State => (t.regs.sp, peek t 0xCFFF, peek t 0xCFFE, t.cycles)) (after [0xF5] { power with a := 0x12, f := 0xB0, sp := 0xD000 } [] id) =
      (0xCFFE, 0x12, 0xB0, 16) := by decide +kernel
theorem test_push_HL_V41_12 :
    (fun t : State => (t.regs.sp, t.ie, t.cycles)) (after [0xE5] { power with h := 0xAB, l := 0xCD, sp := 0x0001 } [] id) =
      (0xFFFF, 0xCD, 16) := by decide +kernel
theorem test_pop_HL_V41_13 :
    (fun t : State => (t.regs.h, t.regs.l, t.regs.sp, t.cycles)) (after [0xE1] { power with sp := 0xFFFF } [(0x0000, 0x12)] (fun s => { s with ie := 0x34 })) =
      (0x12, 0x34, 0x0001, 12) := by decide +kernel
theorem test_pop_BC_V41_14 :
    (fun t : State => (t.regs.b, t.regs.c, t.regs.sp, t.cycles)) (after [0xC1] { power with sp := 0xFFFC } [(0xFFFC, 0x78), (0xFFFD, 0x56)] id) =
      (0x56, 0x78, 0xFFFE, 12) := by decide +kernel

/-! 8-bit arithmetic: 95_test_vectors.md V42. -/

theorem test_add_A_B_V42_2 :
    (fun t : State => (t.regs.a, t.regs.f, t.cycles)) (after [0x80] { power with a := 0x80, b := 0x80 } [] id) =
      (0x00, 0x90, 4) := by decide +kernel
theorem test_add_A_mHL_V42_4 :
    (fun t : State => (t.regs.a, t.regs.f, t.cycles)) (after [0x86] { power with a := 0x01, h := 0xC0, l := 0x00 } [(0xC000, 0x0F)] id) =
      (0x10, 0x20, 8) := by decide +kernel
theorem test_add_A_n_V42_5 :
    (fun t : State => (t.regs.a, t.regs.f, t.cycles)) (after [0xC6, 0xFF] { power with a := 0x01 } [] id) =
      (0x00, 0xB0, 8) := by decide +kernel
theorem test_adc_A_B_V42_8 :
    (fun t : State => (t.regs.f, t.cycles)) (after [0x88] { power with a := 0xFF, b := 0xFF, f := 0x10 } [] id) =
      (0x30, 4) := by decide +kernel
theorem test_adc_A_B_V42_9 :
    (fun t : State => (t.regs.f, t.cycles)) (after [0x88] { power with a := 0x00, b := 0xFF, f := 0x10 } [] id) =
      (0xB0, 4) := by decide +kernel
theorem test_adc_A_n_V42_11 :
    (fun t : State => (t.regs.a, t.regs.f, t.cycles)) (after [0xCE, 0x00] { power with a := 0xFF, f := 0x10 } [] id) =
      (0x00, 0xB0, 8) := by decide +kernel
theorem test_adc_A_mHL_V42_12 :
    (fun t : State => (t.regs.a, t.regs.f, t.cycles)) (after [0x8E] { power with a := 0x10, h := 0xC0, l := 0x00, f := 0x10 } [(0xC000, 0x20)] id) =
      (0x31, 0x00, 8) := by decide +kernel
theorem test_sub_B_V42_14 :
    (fun t : State => (t.regs.a, t.regs.f, t.cycles)) (after [0x90] { power with a := 0x00, b := 0x01 } [] id) =
      (0xFF, 0x70, 4) := by decide +kernel
theorem test_sub_n_V42_16 :
    (fun t : State => (t.regs.a, t.regs.f, t.cycles)) (after [0xD6, 0x0F] { power with a := 0x3E } [] id) =
      (0x2F, 0x60, 8) := by decide +kernel
theorem test_sub_mHL_V42_17 :
    (fun t : State => (t.regs.a, t.regs.f, t.cycles)) (after [0x96] { power with a := 0x3E, h := 0xC0, l := 0x00 } [(0xC000, 0x40)] id) =
      (0xFE, 0x50, 8) := by decide +kernel
theorem test_sbc_A_B_V42_18 :
    (fun t : State => (t.regs.f, t.cycles)) (after [0x98] { power with a := 0x00, b := 0xFF, f := 0x10 } [] id) =
      (0xF0, 4) := by decide +kernel
theorem test_sbc_A_B_V42_19 :
    (fun t : State => (t.regs.a, t.regs.f, t.cycles)) (after [0x98] { power with a := 0x10, b := 0x0F, f := 0x10 } [] id) =
      (0x00, 0xE0, 4) := by decide +kernel
theorem test_sbc_A_A_V42_21 :
    (fun t : State => (t.regs.a, t.regs.f, t.cycles)) (after [0x9F] { power with a := 0x12, f := 0x10 } [] id) =
      (0xFF, 0x70, 4) := by decide +kernel
theorem test_sbc_A_n_V42_22 :
    (fun t : State => (t.regs.a, t.regs.f, t.cycles)) (after [0xDE, 0x01] { power with a := 0x01, f := 0x00 } [] id) =
      (0x00, 0xC0, 8) := by decide +kernel
theorem test_sbc_A_mHL_V42_23 :
    (fun t : State => (t.regs.a, t.regs.f, t.cycles)) (after [0x9E] { power with a := 0x3B, h := 0xC0, l := 0x00, f := 0x10 } [(0xC000, 0x4F)] id) =
      (0xEB, 0x70, 8) := by decide +kernel
theorem test_and_B_V42_24 :
    (fun t : State => (t.regs.a, t.regs.f, t.cycles)) (after [0xA0] { power with a := 0x5A, b := 0x3F, f := 0x50 } [] id) =
      (0x1A, 0x20, 4) := by decide +kernel
theorem test_and_n_V42_25 :
    (fun t : State => (t.regs.a, t.regs.f, t.cycles)) (after [0xE6, 0x0F] { power with a := 0xF0 } [] id) =
      (0x00, 0xA0, 8) := by decide +kernel
theorem test_and_mHL_V42_26 :
    (fun t : State => (t.regs.a, t.regs.f, t.cycles)) (after [0xA6] { power with a := 0xFF, h := 0xC0, l := 0x00 } [(0xC000, 0x81)] id) =
      (0x81, 0x20, 8) := by decide +kernel
theorem test_xor_A_V42_27 :
    (fun t : State => (t.regs.a, t.regs.f, t.cycles)) (after [0xAF] { power with a := 0xFF, f := 0xF0 } [] id) =
      (0x00, 0x80, 4) := by decide +kernel
theorem test_xor_n_V42_28 :
    (fun t : State => (t.regs.a, t.cycles)) (after [0xEE, 0x0F] { power with a := 0xFF } [] id) =
      (0xF0, 8) := by decide +kernel
theorem test_xor_mHL_V42_29 :
    (fun t : State => (t.regs.a, t.cycles)) (after [0xAE] { power with a := 0xFF, h := 0xC0, l := 0x00 } [(0xC000, 0x8A)] id) =
      (0x75, 8) := by decide +kernel
theorem test_or_C_V42_30 :
    (fun t : State => (t.regs.f, t.cycles)) (after [0xB1] { power with a := 0x00, c := 0x00, f := 0x70 } [] id) =
      (0x80, 4) := by decide +kernel
theorem test_or_n_V42_31 :
    (fun t : State => (t.regs.a, t.cycles)) (after [0xF6, 0x03] { power with a := 0x5A } [] id) =
      (0x5B, 8) := by decide +kernel
theorem test_or_mHL_V42_32 :
    (fun t : State => (t.regs.a, t.cycles)) (after [0xB6] { power with a := 0x5A, h := 0xC0, l := 0x00 } [(0xC000, 0x0F)] id) =
      (0x5F, 8) := by decide +kernel
theorem test_cp_B_V42_33 :
    (fun t : State => (t.regs.f, t.cycles)) (after [0xB8] { power with a := 0x3C, b := 0x2F } [] id) =
      (0x60, 4) := by decide +kernel
theorem test_cp_n_V42_34 :
    (fun t : State => (t.regs.f, t.cycles)) (after [0xFE, 0x3C] { power with a := 0x3C } [] id) =
      (0xC0, 8) := by decide +kernel
theorem test_cp_mHL_V42_35 :
    (fun t : State => (t.regs.f, t.cycles)) (after [0xBE] { power with a := 0x3C, h := 0xC0, l := 0x00 } [(0xC000, 0x40)] id) =
      (0x50, 8) := by decide +kernel
theorem test_inc_B_V42_36 :
    (fun t : State => (t.regs.f, t.regs.b, t.cycles)) (after [0x04] { power with b := 0xFF, f := 0x10 } [] id) =
      (0xB0, 0x00, 4) := by decide +kernel
theorem test_inc_A_V42_37 :
    (fun t : State => (t.regs.a, t.regs.f, t.cycles)) (after [0x3C] { power with a := 0x0F, f := 0xC0 } [] id) =
      (0x10, 0x20, 4) := by decide +kernel
theorem test_inc_mHL_V42_38 :
    (fun t : State => (peek t 0xC000, t.cycles)) (after [0x34] { power with h := 0xC0, l := 0x00, f := 0x10 } [(0xC000, 0x50)] id) =
      (0x51, 12) := by decide +kernel
theorem test_dec_B_V42_39 :
    (fun t : State => (t.regs.f, t.regs.b, t.cycles)) (after [0x05] { power with b := 0x01, f := 0x10 } [] id) =
      (0xD0, 0x00, 4) := by decide +kernel
theorem test_dec_L_V42_40 :
    (fun t : State => (t.regs.f, t.regs.l, t.cycles)) (after [0x2D] { power with l := 0x00 } [] id) =
      (0x60, 0xFF, 4) := by decide +kernel
theorem test_dec_C_V42_41 :
    (fun t : State => (t.regs.f, t.regs.c, t.cycles)) (after [0x0D] { power with c := 0x10 } [] id) =
      (0x60, 0x0F, 4) := by decide +kernel
theorem test_dec_mHL_V42_42 :
    (fun t : State => (t.regs.f, peek t 0xC000, t.cycles)) (after [0x35] { power with h := 0xC0, l := 0x00 } [(0xC000, 0x00)] id) =
      (0x60, 0xFF, 12) := by decide +kernel
theorem test_daa_V42_44 :
    (fun t : State => (t.regs.a, t.regs.f, t.cycles)) (after [0x27] { power with a := 0x9A, f := 0x00 } [] id) =
      (0x00, 0x90, 4) := by decide +kernel
theorem test_daa_V42_48 :
    (fun t : State => (t.regs.a, t.regs.f, t.cycles)) (after [0x27] { power with a := 0x4B, f := 0x60 } [] id) =
      (0x45, 0x40, 4) := by decide +kernel
theorem test_cpl_V42_51 :
    (fun t : State => (t.regs.a, t.regs.f, t.cycles)) (after [0x2F] { power with a := 0x35, f := 0x90 } [] id) =
      (0xCA, 0xF0, 4) := by decide +kernel
theorem test_scf_V42_52 :
    (fun t : State => (t.regs.f, t.cycles)) (after [0x37] { power with f := 0xE0 } [] id) =
      (0x90, 4) := by decide +kernel
theorem test_ccf_V42_54 :
    (fun t : State => (t.regs.f, t.cycles)) (after [0x3F] { power with f := 0x00 } [] id) =
      (0x10, 4) := by decide +kernel

/-! 16-bit arithmetic: 95_test_vectors.md V43. -/

theorem test_add_HL_BC_V43_1 :
    (fun t : State => (t.regs.f, t.regs.h, t.regs.l, t.cycles)) (after [0x09] { power with h := 0x0F, l := 0xFF, b := 0x00, c := 0x01, f := 0x80 } [] id) =
      (0xA0, 0x10, 0x00, 8) := by decide +kernel
theorem test_add_HL_HL_V43_2 :
    (fun t : State => (t.regs.f, t.regs.h, t.regs.l, t.cycles)) (after [0x29] { power with h := 0x8A, l := 0x23 } [] id) =
      (0x30, 0x14, 0x46, 8) := by decide +kernel
theorem test_add_HL_DE_V43_3 :
    (fun t : State => (t.regs.f, t.regs.h, t.regs.l, t.cycles)) (after [0x19] { power with h := 0xFF, l := 0xFF, d := 0x00, e := 0x01, f := 0x40 } [] id) =
      (0x30, 0x00, 0x00, 8) := by decide +kernel
theorem test_add_HL_SP_V43_4 :
    (fun t : State => (t.regs.h, t.regs.l, t.cycles)) (after [0x39] { power with h := 0x00, l := 0x01, sp := 0xFFFE } [] id) =
      (0xFF, 0xFF, 8) := by decide +kernel
theorem test_inc_BC_V43_5 :
    (fun t : State => (t.regs.b, t.regs.c, t.cycles)) (after [0x03] { power with b := 0xFF, c := 0xFF, f := 0xF0 } [] id) =
      (0x00, 0x00, 8) := by decide +kernel
theorem test_inc_SP_V43_6 :
    (fun t : State => (t.regs.sp, t.cycles)) (after [0x33] { power with sp := 0xFFFF } [] id) =
      (0x0000, 8) := by decide +kernel
theorem test_dec_DE_V43_7 :
    (fun t : State => (t.regs.d, t.regs.e, t.cycles)) (after [0x1B] { power with d := 0x00, e := 0x00 } [] id) =
      (0xFF, 0xFF, 8) := by decide +kernel
theorem test_dec_HL_V43_8 :
    (fun t : State => (t.regs.h, t.regs.l, t.cycles)) (after [0x2B] { power with h := 0x10, l := 0x00 } [] id) =
      (0x0F, 0xFF, 8) := by decide +kernel
theorem test_add_SP_e_V43_11 :
    (fun t : State => (t.regs.f, t.regs.sp, t.cycles)) (after [0xE8, 0x80] { power with sp := 0x0080 } [] id) =
      (0x10, 0x0000, 16) := by decide +kernel

/-! Rotates, shifts and bits: 95_test_vectors.md V44. -/

theorem test_rlca_V44_2 :
    (fun t : State => (t.regs.f, t.cycles)) (after [0x07] { power with a := 0x00, f := 0x80 } [] id) =
      (0x00, 4) := by decide +kernel
theorem test_rla_V44_4 :
    (fun t : State => (t.regs.a, t.regs.f, t.cycles)) (after [0x17] { power with a := 0x80, f := 0x00 } [] id) =
      (0x00, 0x10, 4) := by decide +kernel
theorem test_rrca_V44_5 :
    (fun t : State => (t.regs.a, t.regs.f, t.cycles)) (after [0x0F] { power with a := 0x3B } [] id) =
      (0x9D, 0x10, 4) := by decide +kernel
theorem test_rra_V44_7 :
    (fun t : State => (t.regs.a, t.regs.f, t.cycles)) (after [0x1F] { power with a := 0x00, f := 0x10 } [] id) =
      (0x80, 0x00, 4) := by decide +kernel
theorem test_rlc_B_V44_9 :
    (fun t : State => (t.regs.f, t.cycles)) (after [0xCB, 0x00] { power with b := 0x00, f := 0x10 } [] id) =
      (0x80, 8) := by decide +kernel
theorem test_rlc_mHL_V44_10 :
    (fun t : State => (t.regs.f, peek t 0xC000, t.cycles)) (after [0xCB, 0x06] { power with h := 0xC0, l := 0x00 } [(0xC000, 0x80)] id) =
      (0x10, 0x01, 16) := by decide +kernel
theorem test_rrc_C_V44_11 :
    (fun t : State => (t.regs.f, t.regs.c, t.cycles)) (after [0xCB, 0x09] { power with c := 0x01 } [] id) =
      (0x10, 0x80, 8) := by decide +kernel
theorem test_rrc_mHL_V44_12 :
    (fun t : State => (peek t 0xC000, t.cycles)) (after [0xCB, 0x0E] { power with h := 0xC0, l := 0x00 } [(0xC000, 0x02)] id) =
      (0x01, 16) := by decide +kernel
theorem test_rl_D_V44_13 :
    (fun t : State => (t.regs.f, t.regs.d, t.cycles)) (after [0xCB, 0x12] { power with d := 0x80 } [] id) =
      (0x90, 0x00, 8) := by decide +kernel
theorem test_rl_L_V44_14 :
    (fun t : State => (t.regs.f, t.regs.l, t.cycles)) (after [0xCB, 0x15] { power with l := 0x11, f := 0x10 } [] id) =
      (0x00, 0x23, 8) := by decide +kernel
theorem test_rl_mHL_V44_15 :
    (fun t : State => (t.regs.f, peek t 0xC000, t.cycles)) (after [0xCB, 0x16] { power with h := 0xC0, l := 0x00, f := 0x10 } [(0xC000, 0x40)] id) =
      (0x00, 0x81, 16) := by decide +kernel
theorem test_rr_A_V44_16 :
    (fun t : State => (t.regs.a, t.regs.f, t.cycles)) (after [0xCB, 0x1F] { power with a := 0x01 } [] id) =
      (0x00, 0x90, 8) := by decide +kernel
theorem test_rr_E_V44_17 :
    (fun t : State => (t.regs.f, t.regs.e, t.cycles)) (after [0xCB, 0x1B] { power with e := 0x8A, f := 0x10 } [] id) =
      (0x00, 0xC5, 8) := by decide +kernel
theorem test_rr_mHL_V44_18 :
    (fun t : State => (peek t 0xC000, t.cycles)) (after [0xCB, 0x1E] { power with h := 0xC0, l := 0x00, f := 0x10 } [(0xC000, 0x01)] id) =
      (0x80, 16) := by decide +kernel
theorem test_sla_D_V44_19 :
    (fun t : State => (t.regs.f, t.regs.d, t.cycles)) (after [0xCB, 0x22] { power with d := 0x80 } [] id) =
      (0x90, 0x00, 8) := by decide +kernel
theorem test_sla_mHL_V44_21 :
    (fun t : State => (peek t 0xC000, t.cycles)) (after [0xCB, 0x26] { power with h := 0xC0, l := 0x00 } [(0xC000, 0x55)] id) =
      (0xAA, 16) := by decide +kernel
theorem test_sra_B_V44_23 :
    (fun t : State => (t.regs.f, t.regs.b, t.cycles)) (after [0xCB, 0x28] { power with b := 0x01 } [] id) =
      (0x90, 0x00, 8) := by decide +kernel
theorem test_sra_mHL_V44_24 :
    (fun t : State => (t.regs.f, peek t 0xC000, t.cycles)) (after [0xCB, 0x2E] { power with h := 0xC0, l := 0x00 } [(0xC000, 0xFF)] id) =
      (0x10, 0xFF, 16) := by decide +kernel
theorem test_swap_A_V44_25 :
    (fun t : State => (t.regs.a, t.regs.f, t.cycles)) (after [0xCB, 0x37] { power with a := 0xF1, f := 0x10 } [] id) =
      (0x1F, 0x00, 8) := by decide +kernel
theorem test_swap_H_V44_26 :
    (fun t : State => (t.regs.f, t.cycles)) (after [0xCB, 0x34] { power with h := 0x00 } [] id) =
      (0x80, 8) := by decide +kernel
theorem test_swap_mHL_V44_27 :
    (fun t : State => (peek t 0xC000, t.cycles)) (after [0xCB, 0x36] { power with h := 0xC0, l := 0x00 } [(0xC000, 0x5A)] id) =
      (0xA5, 16) := by decide +kernel
theorem test_srl_A_V44_28 :
    (fun t : State => (t.regs.a, t.regs.f, t.cycles)) (after [0xCB, 0x3F] { power with a := 0x01 } [] id) =
      (0x00, 0x90, 8) := by decide +kernel
theorem test_srl_B_V44_29 :
    (fun t : State => (t.regs.f, t.regs.b, t.cycles)) (after [0xCB, 0x38] { power with b := 0xFF } [] id) =
      (0x10, 0x7F, 8) := by decide +kernel
theorem test_srl_mHL_V44_30 :
    (fun t : State => (peek t 0xC000, t.cycles)) (after [0xCB, 0x3E] { power with h := 0xC0, l := 0x00 } [(0xC000, 0x80)] id) =
      (0x40, 16) := by decide +kernel
theorem test_bit_7_A_V44_31 :
    (fun t : State => (t.regs.f, t.cycles)) (after [0xCB, 0x7F] { power with a := 0x80, f := 0x10 } [] id) =
      (0x30, 8) := by decide +kernel
theorem test_bit_4_L_V44_32 :
    (fun t : State => (t.regs.f, t.cycles)) (after [0xCB, 0x65] { power with l := 0xEF, f := 0x00 } [] id) =
      (0xA0, 8) := by decide +kernel
theorem test_bit_0_mHL_V44_33 :
    (fun t : State => (t.regs.f, t.cycles)) (after [0xCB, 0x46] { power with h := 0xC0, l := 0x00, f := 0x40 } [(0xC000, 0xFE)] id) =
      (0xA0, 12) := by decide +kernel
theorem test_bit_7_mHL_V44_34 :
    (fun t : State => (t.regs.f, t.cycles)) (after [0xCB, 0x7E] { power with h := 0xFF, l := 0xFF } [] (fun s => { s with ie := 0x80 })) =
      (0x20, 12) := by decide +kernel
theorem test_res_7_A_V44_35 :
    (fun t : State => (t.regs.a, t.cycles)) (after [0xCB, 0xBF] { power with a := 0x80, f := 0xF0 } [] id) =
      (0x00, 8) := by decide +kernel
theorem test_res_1_L_V44_36 :
    (fun t : State => (t.regs.l, t.cycles)) (after [0xCB, 0x8D] { power with l := 0x3B } [] id) =
      (0x39, 8) := by decide +kernel
theorem test_res_3_mHL_V44_37 :
    (fun t : State => (peek t 0xC000, t.cycles)) (after [0xCB, 0x9E] { power with h := 0xC0, l := 0x00 } [(0xC000, 0xFF)] id) =
      (0xF7, 16) := by decide +kernel
theorem test_set_3_A_V44_38 :
    (fun t : State => (t.regs.a, t.cycles)) (after [0xCB, 0xDF] { power with a := 0x80 } [] id) =
      (0x88, 8) := by decide +kernel
theorem test_set_7_L_V44_39 :
    (fun t : State => (t.regs.l, t.cycles)) (after [0xCB, 0xFD] { power with l := 0x3B } [] id) =
      (0xBB, 8) := by decide +kernel
theorem test_set_0_mHL_V44_40 :
    (fun t : State => (t.ifr, t.cycles)) (after [0xCB, 0xC6] { power with h := 0xFF, l := 0x0F } [] id) =
      (0x01, 16) := by decide +kernel
theorem test_set_2_mHL_V44_41 :
    (fun t : State => (peek t 0xC000, t.cycles)) (after [0xCB, 0xD6] { power with h := 0xC0, l := 0x00 } [(0xC000, 0x00)] id) =
      (0x04, 16) := by decide +kernel

/-! Control transfer: 95_test_vectors.md V45. -/

theorem test_jp_nn_V45_1 :
    (fun t : State => (t.regs.pc, t.cycles)) (after [0xC3, 0x00, 0x80] power [] id) =
      (0x8000, 16) := by decide +kernel
theorem test_jp_NZ_nn_V45_2 :
    (fun t : State => (t.regs.pc, t.cycles)) (after [0xC2, 0x50, 0x01] { power with f := 0x00 } [] id) =
      (0x0150, 16) := by decide +kernel
theorem test_jp_NZ_nn_V45_3 :
    (fun t : State => (t.regs.pc, t.cycles)) (after [0xC2, 0x50, 0x01] { power with f := 0x80 } [] id) =
      (0x0103, 12) := by decide +kernel
theorem test_jp_Z_nn_V45_4 :
    (fun t : State => (t.regs.pc, t.cycles)) (after [0xCA, 0x50, 0x01] { power with f := 0x80 } [] id) =
      (0x0150, 16) := by decide +kernel
theorem test_jp_NC_nn_V45_5 :
    (fun t : State => (t.regs.pc, t.cycles)) (after [0xD2, 0x50, 0x01] { power with f := 0x10 } [] id) =
      (0x0103, 12) := by decide +kernel
theorem test_jp_C_nn_V45_6 :
    (fun t : State => (t.regs.pc, t.cycles)) (after [0xDA, 0x50, 0x01] { power with f := 0x10 } [] id) =
      (0x0150, 16) := by decide +kernel
theorem test_jp_HL_V45_7 :
    (fun t : State => (t.regs.pc, t.cycles)) (after [0xE9] { power with h := 0xC1, l := 0x23 } [] id) =
      (0xC123, 4) := by decide +kernel
theorem test_jr_e_V45_8 :
    (fun t : State => (t.regs.pc, t.cycles)) (after [0x18, 0x05] { power with f := 0xF0 } [] id) =
      (0x0107, 12) := by decide +kernel
theorem test_jr_NZ_e_V45_12 :
    (fun t : State => (t.regs.pc, t.cycles)) (after [0x20, 0xFB] { power with f := 0x00 } [] id) =
      (0x00FD, 12) := by decide +kernel
theorem test_jr_NZ_e_V45_13 :
    (fun t : State => (t.regs.pc, t.cycles)) (after [0x20, 0xFB] { power with f := 0x80 } [] id) =
      (0x0102, 8) := by decide +kernel
theorem test_jr_Z_e_V45_14 :
    (fun t : State => (t.regs.pc, t.cycles)) (after [0x28, 0x10] { power with f := 0x80 } [] id) =
      (0x0112, 12) := by decide +kernel
theorem test_jr_NC_e_V45_15 :
    (fun t : State => (t.regs.pc, t.cycles)) (after [0x30, 0x10] { power with f := 0x10 } [] id) =
      (0x0102, 8) := by decide +kernel
theorem test_jr_C_e_V45_16 :
    (fun t : State => (t.regs.pc, t.cycles)) (after [0x38, 0x10] { power with f := 0x10 } [] id) =
      (0x0112, 12) := by decide +kernel
theorem test_call_nn_V45_17 :
    (fun t : State => (t.regs.sp, t.regs.pc, peek t 0xFFFD, peek t 0xFFFC, t.cycles)) (after [0xCD, 0x34, 0x12] power [] id) =
      (0xFFFC, 0x1234, 0x01, 0x03, 24) := by decide +kernel
theorem test_call_NZ_nn_V45_18 :
    (fun t : State => (t.regs.pc, t.cycles)) (after [0xC4, 0x34, 0x12] { power with f := 0x80 } [] id) =
      (0x0103, 12) := by decide +kernel
theorem test_call_Z_nn_V45_19 :
    (fun t : State => (t.regs.sp, t.regs.pc, peek t 0xFFFD, peek t 0xFFFC, t.cycles)) (after [0xCC, 0x34, 0x12] { power with f := 0x80 } [] id) =
      (0xFFFC, 0x1234, 0x01, 0x03, 24) := by decide +kernel
theorem test_call_C_nn_V45_20 :
    (fun t : State => (t.regs.pc, t.cycles)) (after [0xDC, 0x34, 0x12] { power with f := 0x00 } [] id) =
      (0x0103, 12) := by decide +kernel
theorem test_call_NC_nn_V45_21 :
    (fun t : State => (t.regs.sp, t.regs.pc, peek t 0xFFFD, peek t 0xFFFC, t.cycles)) (after [0xD4, 0x34, 0x12] { power with f := 0x00 } [] id) =
      (0xFFFC, 0x1234, 0x01, 0x03, 24) := by decide +kernel
theorem test_ret_V45_22 :
    (fun t : State => (t.regs.sp, t.regs.pc, t.cycles)) (after [0xC9] { power with sp := 0xFFFC } [(0xFFFC, 0x03), (0xFFFD, 0x01)] id) =
      (0xFFFE, 0x0103, 16) := by decide +kernel
theorem test_ret_NZ_V45_23 :
    (fun t : State => (t.regs.pc, t.cycles)) (after [0xC0] { power with f := 0x80, sp := 0xFFFC } [(0xFFFC, 0x03), (0xFFFD, 0x01)] id) =
      (0x0101, 8) := by decide +kernel
theorem test_ret_Z_V45_24 :
    (fun t : State => (t.regs.sp, t.regs.pc, t.cycles)) (after [0xC8] { power with f := 0x80, sp := 0xFFFC } [(0xFFFC, 0x03), (0xFFFD, 0x01)] id) =
      (0xFFFE, 0x0103, 20) := by decide +kernel
theorem test_ret_NC_V45_25 :
    (fun t : State => (t.regs.sp, t.regs.pc, t.cycles)) (after [0xD0] { power with f := 0x00, sp := 0xFFFC } [(0xFFFC, 0x03), (0xFFFD, 0x01)] id) =
      (0xFFFE, 0x0103, 20) := by decide +kernel
theorem test_ret_C_V45_26 :
    (fun t : State => (t.regs.pc, t.cycles)) (after [0xD8] { power with f := 0x00, sp := 0xFFFC } [(0xFFFC, 0x03), (0xFFFD, 0x01)] id) =
      (0x0101, 8) := by decide +kernel
theorem test_reti_V45_27 :
    (fun t : State => (t.regs.sp, t.regs.pc, t.ime, t.cycles)) (after [0xD9] { power with sp := 0xFFFC } [(0xFFFC, 0x03), (0xFFFD, 0x01)] id) =
      (0xFFFE, 0x0103, true, 16) := by decide +kernel
theorem test_rst_00H_V45_28 :
    (fun t : State => (t.regs.sp, t.regs.pc, peek t 0xFFFD, peek t 0xFFFC, t.cycles)) (after [0xC7] power [] id) =
      (0xFFFC, 0x0000, 0x01, 0x01, 16) := by decide +kernel
theorem test_rst_38H_V45_29 :
    (fun t : State => (t.regs.sp, t.regs.pc, peek t 0xFFFD, peek t 0xFFFC, t.cycles)) (after [0xFF] { power with pc := 0x0200 } [] id) =
      (0xFFFC, 0x0038, 0x02, 0x01, 16) := by decide +kernel
theorem test_rst_28H_V45_30 :
    (fun t : State => (t.regs.sp, t.regs.pc, peek t 0xC001, peek t 0xC000, t.cycles)) (after [0xEF] { power with sp := 0xC002 } [] id) =
      (0xC000, 0x0028, 0x01, 0x01, 16) := by decide +kernel

/-! System instructions: 95_test_vectors.md V46. -/

theorem test_nop_V46_1 :
    (fun t : State => (t.cycles)) (after [0x00] { power with f := 0xF0 } [] id) =
      (4) := by decide +kernel
theorem test_halt_V46_2 :
    (fun t : State => (t.halted, t.cycles)) (after [0x76] power [] id) =
      (true, 4) := by decide +kernel
theorem test_stop_V46_5 :
    (fun t : State => (t.regs.pc, t.halted, t.cycles)) (after [0x10, 0x00] power [] id) =
      (0x0102, true, 4) := by decide +kernel
theorem test_di_V46_6 :
    (fun t : State => (t.ime, t.cycles)) (after [0xF3] power [] (fun s => { s with ime := true })) =
      (false, 4) := by decide +kernel
theorem test_ei_V46_7 :
    (fun t : State => (t.imePending, t.cycles)) (after [0xFB] power [] id) =
      (true, 4) := by decide +kernel
theorem test_undefined_D3_V46_13 :
    (fun t : State => (t.anomalies, t.cycles)) (after [0xD3] { power with a := 0x12, f := 0xF0 } [] id) =
      ([.unimplementedOpcode 0xD3 0x0100], 4) := by decide +kernel
theorem test_undefined_FD_V46_23 :
    (fun t : State => (t.anomalies, t.cycles)) (after [0xFD] { power with a := 0x12, f := 0xF0 } [] id) =
      ([.unimplementedOpcode 0xFD 0x0100], 4) := by decide +kernel

/-! The region decoder at every boundary of 20_memory.md R61, and three vectors of 96_test_vectors_system.md. -/

theorem test_region_bounds :
    ([(0x0000, .rom), (0x7FFF, .rom), (0x8000, .vram), (0x9FFF, .vram), (0xA000, .xram), (0xBFFF, .xram), (0xC000, .wram), (0xDFFF, .wram),
      (0xE000, .mirror), (0xFDFF, .mirror), (0xFE00, .oam), (0xFE9F, .oam), (0xFEA0, .unusable), (0xFEFF, .unusable), (0xFF00, .io),
      (0xFF7F, .io), (0xFF80, .hram), (0xFFFE, .hram), (0xFFFF, .ie)] : List (Addr × Region)).all
      (fun p => decide (regionOf p.1 = p.2)) = true := by decide

/-- A state with `IE`, `IF` and `IME` given. -/
def pendingState (ie ifr : Byte) (ime : Bool) : State := { State.reset with ie := ie, ifr := ifr, ime := ime }

/-- R332, R333: of two pending sources the one of the lower number is taken, its bit alone cleared; the return address is stacked. -/
theorem test_interrupt_priority :
    (fun t : State => (t.regs.pc, t.regs.sp, t.ifr, t.ime, peek t 0xFFFD, peek t 0xFFFC, t.cycles)) (nextOf (pendingState 0xFF 0xF4 true)) =
      (0x0050, 0xFFFC, 0xF0, false, 0x01, 0x00, 20) := by decide +kernel

/-- R320: halted with a pending source and `IME` clear, the step leaves the halted state and runs the next instruction (here `NOP`). -/
theorem test_halt_wakes :
    (fun t : State => (t.halted, t.regs.pc, t.ifr)) (nextOf { pendingState 0x01 0x01 false with halted := true }) =
      (false, 0x0101, 0x01) := by decide +kernel

/-- R320: halted with nothing pending, the step changes nothing and reports 4 cycles. -/
theorem test_halt_idles :
    (fun t : State => (t.halted, t.regs.pc, t.cycles)) (nextOf { State.reset with halted := true }) = (true, 0x0100, 4) := by decide +kernel

/-- R375: the count of a step (here of the `NOP` at 0x0100) is added to the sum. -/
theorem test_cycle_sum : (fun t : State => (t.cycles, t.cycleTotal)) (nextOf { State.reset with cycleTotal := 96 }) = (4, 100) := by
  decide +kernel

/-- R345: the numbers of the anomaly kinds, in the order of its table. -/
theorem test_anomaly_codes :
    [Anomaly.unimplementedOpcode 0xD3 0x0100, .unusableRead 0xFEA0, .unusableWrite 0xFEFF 0x00, .unknownMapperCode 0x04,
      .unknownSizeCode 0x148 0x09].map Anomaly.code = [1, 2, 3, 4, 5] := by decide

/-- R331: a request is recorded in `IF` while `IME` is clear. -/
theorem test_request_recorded :
    (fun t : State => (t.ifr, t.irqLines)) (nextOf { State.reset with irqLines := [0b00100] }) = (0x04, []) := by decide +kernel

/-- R80: bytes 0 and 159 of the copy (V40.19 and its last byte). -/
theorem test_dma_copy :
    (fun t : State => (t.dma, peek t 0xFE00, peek t 0xFE9F))
      (write8 0xFF46 0xC1 (placeByte 0xC19F 0x5C (placeByte 0xC100 0x03 State.reset))) = (0xC1, 0x03, 0x5C) := by decide +kernel

/-- R71, R7: a read of an attached port is logged and answered, the free value counted. -/
theorem test_io_port :
    (fun t : State => (t.portLog, t.portReads)) (read8 0xFF00 { State.reset with cfg := { Config.blank with ioAttached := true } }).2 =
      ([.ioRead 0xFF00], 1) := by decide +kernel

/-! ### Concrete instances that meet the hypotheses of the statements -/

theorem witness_DecodeEncode : (Instr.ld_mnn_SP 0xFFFF).wf = true := by decide

theorem witness_EncodeDecode : decode [0xC3, 0x34, 0x12, 0x00] = .ok (.jp_nn 0x1234, [0x00]) := rfl

/-- Both clauses at their boundary, for each length. -/
theorem witness_LengthFromFirstByte :
    (0 ≤ ([] : List Byte).length ∧ 1 ≤ ([0x00] : List Byte).length ∧ 2 ≤ ([0x00, 0x00] : List Byte).length) ∧
    (([] : List Byte).length < 1 ∧ ([0x00] : List Byte).length < 2) := by decide

theorem witness_StackRoundTrip :
    cellOf State.reset (State.reset.regs.sp - 1) = some (.hram 125) ∧ cellOf State.reset (State.reset.regs.sp - 2) = some (.hram 124) ∧
    Cell.hram 125 ≠ Cell.hram 124 ∧ halfByteRam State.reset.mapper = false ∧
    triggersDma (State.reset.regs.sp - 1) State.reset = false ∧ triggersDma (State.reset.regs.sp - 2) State.reset = false := by
  decide

theorem witness_UndefinedOpcodes : UndefinedOpcode 0xD3 .undefined_D3 ∧ UndefinedOpcode 0xFD .undefined_FD := ⟨.xD3, .xFD⟩

/-- Both outcomes of a condition. -/
theorem witness_conditions :
    ({ State.reset with regs := { power with f := 0x80 } } : State).cond .z = true ∧ State.reset.cond .z = false ∧
    State.reset.cond .nz = true ∧ State.reset.cond .nc = true ∧
    ({ State.reset with regs := { power with f := 0x10 } } : State).cond .c = true := by decide

/-- A step that runs an instruction, nothing pending. -/
theorem witness_StepRunsInstruction :
    let s0 := takeRequests State.reset
    let pend := s0.ifr &&& s0.ie &&& 0x1F
    let u : State := { s0 with outcome := .handled, halted := false, ime := s0.ime || s0.imePending, imePending := false }
    let b0 := fetch8 u
    let b1 := fetch8 b0.2
    let b2 := fetch8 b1.2
    (pend = 0 → s0.halted = false) ∧ (pend ≠ 0 → s0.ime = false) ∧ decode [b0.1, b1.1, b2.1] = .ok (.nop, [0x00, 0x00]) :=
  ⟨fun _ => rfl, fun _ => rfl, rfl⟩

/-- A step that wakes and runs an instruction, a source pending and `IME` clear. -/
theorem witness_StepRunsInstruction_pending :
    let s : State := { pendingState 0x01 0x01 false with halted := true }
    let s0 := takeRequests s
    let pend := s0.ifr &&& s0.ie &&& 0x1F
    let u : State := { s0 with outcome := .handled, halted := false, ime := s0.ime || s0.imePending, imePending := false }
    let b0 := fetch8 u
    let b1 := fetch8 b0.2
    let b2 := fetch8 b1.2
    (pend = 0 → s0.halted = false) ∧ (pend ≠ 0 → s0.ime = false) ∧ decode [b0.1, b1.1, b2.1] = .ok (.nop, [0x00, 0x00]) :=
  ⟨fun h => absurd h (by decide), fun _ => rfl, rfl⟩

theorem witness_StepIdles :
    let s0 := takeRequests { State.reset with halted := true, ie := 0xE0, ifr := 0xFF }
    s0.halted = true ∧ s0.ifr &&& s0.ie &&& 0x1F = 0 := by decide

/-- The lowest and the highest source. -/
theorem witness_StepTakesInterrupt :
    let pends (s0 : State) (n : Nat) : Bool := s0.ifr.getLsbD n && s0.ie.getLsbD n
    let a := takeRequests (pendingState 0x1F 0xFF true)
    let b := takeRequests (pendingState 0x10 0xFF true)
    (a.ime = true ∧ pends a 0 = true ∧ ∀ n, n < 0 → pends a n = false) ∧
    (b.ime = true ∧ pends b 4 = true ∧ ∀ n, n < 4 → pends b n = false) := by decide

theorem witness_EiDelay : State.reset.ime = false ∧ State.reset.halted = false ∧ ∃ t, exec .ei State.reset = .next t :=
  ⟨rfl, rfl, _, rfl⟩

theorem witness_RequestsSetFlagBits :
    State.reset.irqLines = [] ∧ ({ State.reset with irqLines := [0b10001, 0b00000] } : State).irqLines = 0b10001 :: [0b00000] := by decide

/-- A state with an MBC2 cartridge, half-byte RAM, work RAM, OAM and high RAM in use. -/
def busyState : State :=
  { State.powerOn { Config.blank with mapper := .mbc2, xramSize := 512 } [] with
    regs := { power with a := 0x12, f := 0xB0 }
    wram := [(0, 0x34), (0x1FFF, 0x56)], oam := [(159, 0x78)], hram := [(126, 0x9A)], xram := [(511, 0x0B)]
    mapper := .mbc2 { ramEn := true, romBank := 15 }, ime := true, ie := 0x1F }

theorem witness_StepKeepsInv : Inv busyState ∧ ∃ t, step busyState = .next t := by
  refine ⟨⟨?_, ?_, ?_, ?_, ?_, ?_, ?_, ?_, ?_⟩, ?_⟩
  · decide
  · decide
  · decide
  · decide
  · decide
  · decide
  · decide
  · decide
  · decide
  · exact ⟨_, rfl⟩

theorem witness_ResetValues :
    (8191 < 8192 ∧ 159 < 160 ∧ 126 < 127) ∧ Config.blank.xramInit = none ∧
    (let cfg : Config := { Config.blank with mapper := .mbc1, xramSize := 2, xramInit := some [0x12, 0x34] }
     cfg.xramInit = some [0x12, 0x34] ∧ cfg.mapper ≠ .mbc2 ∧ 1 < [0x12#8, 0x34#8].length) := by decide

theorem witness_StepKeepsCartridge : ∃ t, step State.reset = .next t := ⟨_, rfl⟩

theorem witness_FlagFrame : KeepsFlags (.pop_BC) ∧ ∃ t, exec .pop_BC State.reset = .next t := ⟨.pop .bc (by decide), _, rfl⟩

theorem test_ld_A_B_no_transfer : ¬ Transfers .ld_A_B := by
  intro h
  generalize hi : Instr.ld_A_B = i at h
  cases h with
  | jpCond cc nn => cases cc <;> cases hi
  | jrCond cc e => cases cc <;> cases hi
  | callCond cc nn => cases cc <;> cases hi
  | retCond cc => cases cc <;> cases hi
  | rst y => fin_cases y <;> cases hi
  | _ => cases hi

theorem test_ld_A_B_keeps_SP : ¬ MovesSP .ld_A_B := by
  intro h
  generalize hi : Instr.ld_A_B = i at h
  cases h with
  | push p => cases p <;> cases hi
  | pop p => cases p <;> cases hi
  | callCond cc nn => cases cc <;> cases hi
  | retCond cc => cases cc <;> cases hi
  | rst y => fin_cases y <;> cases hi
  | _ => cases hi

/-- `LD A,B` meets every premise of the frame. -/
theorem witness_ControlFrame :
    (∃ t, exec .ld_A_B State.reset = .next t) ∧ ¬ Transfers .ld_A_B ∧ ¬ MovesSP .ld_A_B ∧
    Instr.ld_A_B ≠ .di ∧ Instr.ld_A_B ≠ .reti ∧ Instr.ld_A_B ≠ .ei ∧ Instr.ld_A_B ≠ .halt ∧ (∀ n, Instr.ld_A_B ≠ .stop n) ∧
    (∀ op, ¬ UndefinedOpcode op .ld_A_B) :=
  ⟨⟨_, rfl⟩, test_ld_A_B_no_transfer, test_ld_A_B_keeps_SP, by decide, by decide, by decide, by decide, nofun, nofun⟩

/-- `LD (HL),A` at the last byte of work RAM, and the byte before it. -/
def storeState : State := { State.reset with regs := { power with h := 0xDF, l := 0xFF } }

theorem witness_MemoryFrame :
    (∃ t, exec .ld_mHL_A storeState = .next t) ∧ isPort storeState 0xDFFE = false ∧
    StoresAt .ld_mHL_A storeState storeState.hl ∧ ¬ mayChange storeState storeState.hl 0xDFFE ∧ regionOf storeState.hl ≠ .rom ∧
    (∀ A, StoresAt .ld_mHL_A storeState A → A = storeState.hl) := by
  refine ⟨⟨_, rfl⟩, by decide, .ldMemReg .a storeState, ?_, by decide, ?_⟩
  · simp only [mayChange]; decide
  · intro A h
    generalize hi : Instr.ld_mHL_A = i at h
    cases h with
    | ldMemReg r => rfl
    | pushHigh p => cases p <;> cases hi
    | pushLow p => cases p <;> cases hi
    | rot op => cases op <;> cases hi
    | res b => fin_cases b <;> cases hi
    | set b => fin_cases b <;> cases hi
    | callCondHigh cc => cases cc <;> cases hi
    | callCondLow cc => cases cc <;> cases hi
    | rstHigh y => fin_cases y <;> cases hi
    | rstLow y => fin_cases y <;> cases hi
    | _ => cases hi

/-- Each clause of the map, at a boundary of its range. -/
theorem witness_MemoryMap :
    let n (a : Addr) : Nat := a.toNat
    let io : Config := { Config.blank with vramAttached := true, ioAttached := true }
    n 0x7FFF < 0x8000 ∧
    (0x8000 ≤ n 0x8000 ∧ n 0x8000 < 0xA000 ∧ State.reset.cfg.vramAttached = false) ∧
    (0x8000 ≤ n 0x9FFF ∧ n 0x9FFF < 0xA000 ∧ io.vramAttached = true) ∧
    (0xA000 ≤ n 0xA000 ∧ n 0xBFFF < 0xC000) ∧ (0xC000 ≤ n 0xC000 ∧ n 0xDFFF < 0xE000) ∧ (0xE000 ≤ n 0xE000 ∧ n 0xFDFF < 0xFE00) ∧
    (0xFE00 ≤ n 0xFE00 ∧ n 0xFE9F < 0xFEA0) ∧ (0xFEA0 ≤ n 0xFEA0 ∧ n 0xFEFF < 0xFF00) ∧
    (0xFF00 ≤ n 0xFF0F ∧ n 0xFF0F < 0xFF80 ∧ 0xFF0F = State.reset.cfg.ifAddr) ∧
    (0xFF00 ≤ n 0xFF46 ∧ n 0xFF46 < 0xFF80 ∧ 0xFF46 ≠ State.reset.cfg.ifAddr ∧ 0xFF46 = State.reset.cfg.dmaAddr) ∧
    (0xFF00 ≤ n 0xFF00 ∧ n 0xFF00 < 0xFF80 ∧ 0xFF00 ≠ State.reset.cfg.ifAddr ∧ 0xFF00 ≠ State.reset.cfg.dmaAddr ∧
      State.reset.cfg.ioAttached = false) ∧
    (0xFF00 ≤ n 0xFF7F ∧ n 0xFF7F < 0xFF80 ∧ 0xFF7F ≠ io.ifAddr ∧ 0xFF7F ≠ io.dmaAddr ∧ io.ioAttached = true) ∧
    (0xFF80 ≤ n 0xFF80 ∧ n 0xFFFE < 0xFFFF) ∧ n 0xFFFF = 0xFFFF := by decide

/-- A cell through its alias, and a half-byte cell through its mirror in the window. -/
theorem witness_ReadBack :
    (cellOf State.reset 0xDDFF = some (.wram 0x1DFF) ∧ cellOf State.reset 0xFDFF = some (.wram 0x1DFF)) ∧
    (cellOf busyState 0xA1FF = some (.xram 511) ∧ cellOf busyState 0xBFFF = some (.xram 511)) := by decide

theorem witness_DmaCopy :
    State.reset.cfg.wf = true ∧ 159 < 160 ∧ isPort State.reset (BitVec.ofNat 16 ((0xC1 : Byte).toNat * 0x100 + 159)) = false ∧
    BitVec.ofNat 16 ((0xC1 : Byte).toNat * 0x100 + 159) ≠ State.reset.cfg.dmaAddr ∧
    isPort State.reset 0xFEA0 = false ∧ (0xFEA0 : Addr) ≠ State.reset.cfg.dmaAddr ∧
    ¬ (0xFE00 ≤ (0xFEA0 : Addr).toNat ∧ (0xFEA0 : Addr).toNat < 0xFEA0) := by decide

/-- The smallest image with the three header codes given. -/
def imageOf (code size ram : Byte) : List Byte := List.replicate 0x147 0 ++ [code, size, ram] ++ List.replicate 6 0

/-- Each clause of the load. -/
theorem witness_LoadCartridge :
    (imageOf 0 0 0).length = 0x150 ∧ ((imageOf 0 0 0).drop 1).length < 0x150 ∧
    ((imageOf 0x1E 0x08 0x05).getD 0x147 0 = 0x1E ∧ (imageOf 0x1E 0x08 0x05).getD 0x148 0 = 0x08 ∧
      (imageOf 0x1E 0x08 0x05).getD 0x149 0 = 0x05) ∧
    (0x09#8 ∈ [0x00#8, 0x08, 0x09] ∧ 0x03#8 ∈ [0x01#8, 0x02, 0x03] ∧ 0x06#8 ∈ [0x05#8, 0x06] ∧ 0x0F#8 ∈ [0x0F#8, 0x10, 0x11, 0x12, 0x13] ∧
      0x17#8 ∈ [0x15#8, 0x16, 0x17] ∧ 0x1E#8 ∈ [0x19#8, 0x1A, 0x1B, 0x1C, 0x1D, 0x1E]) ∧
    (8 < (0x09#8).toNat ∧ 0x09#8 ∉ [0x52#8, 0x53, 0x54]) ∧ 5 < (0x06#8).toNat ∧
    (match loadCartridge (imageOf 0x1E 0x08 0x05) with
      | .ok (cfg, an) => decide (cfg.mapper ≠ .mbc2 ∧ cfg.mapper ≠ .unknown ∧ cfg.romBanks = 512 ∧ cfg.xramSize = 65536 ∧ an = [])
      | .error _ => false) = true := by decide +kernel

/-- A state whose cartridge has the given mapper registers, 64 banks and `size` bytes of external RAM. -/
def mapped (m : MapperState) (size : Nat) : State :=
  { State.reset with mapper := m, cfg := { Config.blank with romBanks := 64, xramSize := size } }

theorem witness_UnbankedCartridge :
    State.reset.mapper = .unbanked ∧ (0x7FFF : Addr).toNat < 0x8000 ∧
    ({ State.reset with cfg := { Config.blank with rom := { size := 0x150, bytes := [] } } } : State).cfg.rom.size ≤ (0x150 : Addr).toNat ∧
    (0xBFFF : Addr).toNat - 0xA000 < (mapped .unbanked 0x2000).cfg.xramSize ∧
    State.reset.cfg.xramSize ≤ (0xA000 : Addr).toNat - 0xA000 := by decide

/-- The ranges of the four mapper statements at their boundaries; RAM shown, RAM disabled, RAM too short. -/
theorem witness_mapper_ranges :
    let n (a : Addr) : Nat := a.toNat
    n 0x1FFF < 0x2000 ∧ (0x2000 ≤ n 0x2000 ∧ n 0x2FFF < 0x3000) ∧ (0x3000 ≤ n 0x3000 ∧ n 0x3FFF < 0x4000) ∧
    (0x4000 ≤ n 0x4000 ∧ n 0x5FFF < 0x6000) ∧ (0x6000 ≤ n 0x6000 ∧ n 0x7FFF < 0x8000) ∧ (0xA000 ≤ n 0xA000 ∧ n 0xBFFF < 0xC000) ∧
    (n 0x00FF / 256 % 2 = 0 ∧ n 0x0100 / 256 % 2 = 1) := by decide

theorem witness_Mbc1Cartridge :
    let r : Mbc1 := { ramEn := true, bank1 := 31, bank2 := 3, mode := 1 }
    let i (a : Addr) : Nat := (if r.mode = 1 then r.bank2.toNat else 0) * 0x2000 + (a.toNat - 0xA000)
    (mapped (.mbc1 r) 0x8000).mapper = .mbc1 r ∧ (r.ramEn = true ∧ i 0xBFFF < (mapped (.mbc1 r) 0x8000).cfg.xramSize) ∧
    ¬ (r.ramEn = true ∧ i 0xA000 < (mapped (.mbc1 r) 0x6000).cfg.xramSize) := by decide

theorem witness_Mbc2Cartridge :
    let r : Mbc2 := { ramEn := true, romBank := 15 }
    (mapped (.mbc2 r) 512).mapper = .mbc2 r ∧ r.ramEn = true ∧ ({ r with ramEn := false } : Mbc2).ramEn = false := by decide

theorem witness_Mbc3Cartridge :
    let r : Mbc3 := { ramEn := true, romBank := 127, sel := 3 }
    let i (a : Addr) : Nat := r.sel.toNat * 0x2000 + (a.toNat - 0xA000)
    (mapped (.mbc3 r) 0x8000).mapper = .mbc3 r ∧ (r.ramEn = true ∧ r.sel.toNat ≤ 3 ∧ i 0xBFFF < (mapped (.mbc3 r) 0x8000).cfg.xramSize) ∧
    ¬ ({ r with sel := 4 } : Mbc3).sel.toNat ≤ 3 := by decide

theorem witness_Mbc5Cartridge :
    let r : Mbc5 := { ramEn := true, romBank := 511, ramBank := 15 }
    let i (a : Addr) : Nat := r.ramBank.toNat * 0x2000 + (a.toNat - 0xA000)
    (mapped (.mbc5 r) 0x20000).mapper = .mbc5 r ∧ (r.ramEn = true ∧ i 0xBFFF < (mapped (.mbc5 r) 0x20000).cfg.xramSize) ∧
    ¬ (r.ramEn = true ∧ i 0xA000 < (mapped (.mbc5 r) 0x1E000).cfg.xramSize) := by decide

end Sys2Proof.Tests
end

section
/-! PROOFS. The banking chips MBC1, MBC2 and MBC5 (20_memory.md R97, R100, R102, R106): what an access to the two cartridge windows is,
said once for every chip, then the registers of each chip. -/

namespace Sys2Proof.Machine

/-! ### Fields of a written byte, in plain arithmetic -/

theorem enablesRam_eq (v : Byte) : enablesRam v = decide (v.toNat % 16 = 0x0A) := by
  revert v; exact byte_forall (by decide +kernel)

theorem setWidth_eq_ofNat_mod {w : Nat} (k : Nat) (v : BitVec w) : v.setWidth k = BitVec.ofNat k (v.toNat % 2 ^ k) := by
  apply BitVec.eq_of_toNat_eq
  simp

/-- A bank register that cannot hold 0, from the low `k` bits of a byte. -/
theorem atLeastOne_setWidth (k : Nat) (v : Byte) :
    atLeastOne (v.setWidth k) = if v.toNat % 2 ^ k = 0 then 1 else BitVec.ofNat k (v.toNat % 2 ^ k) := by
  have hz : v.setWidth k = 0 ↔ v.toNat % 2 ^ k = 0 := by
    rw [← BitVec.toNat_inj, BitVec.toNat_setWidth]; rfl
  rw [atLeastOne, ← setWidth_eq_ofNat_mod]
  simp only [hz]

/-! ### The two cartridge windows -/

theorem triggersDma_below_io {a : Addr} (s : State) (h : a.toNat < 0xFF00) : triggersDma a s = false := by
  have hr : regionOf a ≠ .io := fun hio => absurd ((regionOf_iff a .io).1 hio).1 (Nat.not_le.2 h)
  simp [triggersDma, hr]

theorem read8_rom {a : Addr} (s : State) (h : a.toNat < 0x8000) : read8 a s = (cartRomRead s a, s) := by
  have hr : regionOf a = .rom := (regionOf_iff a .rom).2 ⟨Nat.zero_le _, h⟩
  simp only [read8, hr]

theorem write8_rom {a : Addr} (v : Byte) (s : State) (h : a.toNat < 0x8000) :
    write8 a v s = { s with mapper := mapperWrite s.mapper a v } := by
  have hr : regionOf a = .rom := (regionOf_iff a .rom).2 ⟨Nat.zero_le _, h⟩
  rw [write8, triggersDma_below_io s (by omega)]
  simp only [writeCell, hr]; rfl

theorem read8_xram {a : Addr} (s : State) (h : 0xA000 ≤ a.toNat) (h' : a.toNat < 0xC000) :
    read8 a s = (cartRamRead s a, s) := by
  have hr : regionOf a = .xram := (regionOf_iff a .xram).2 ⟨h, h'⟩
  simp only [read8, hr]

theorem write8_xram {a : Addr} (v : Byte) (s : State) (h : 0xA000 ≤ a.toNat) (h' : a.toNat < 0xC000) :
    write8 a v s = cartRamWrite s a v := by
  have hr : regionOf a = .xram := (regionOf_iff a .xram).2 ⟨h, h'⟩
  rw [write8, triggersDma_below_io s (by omega)]
  simp only [writeCell, hr]; rfl

/-- The ROM windows of a chip that shows bank `low` at 0x0000 and bank `high` at 0x4000, each modulo the bank count (R97). -/
theorem read8_bankedRom {s : State} {a : Addr} {low high : Nat}
    (hi : cartRomIndex s a = romIndex s.cfg (if a.toNat < 0x4000 then low else high) (a.toNat % 0x4000)) :
    (a.toNat < 0x4000 → read8 a s = (romByte s.cfg.rom (low % s.cfg.romBanks * 0x4000 + a.toNat), s)) ∧
    (0x4000 ≤ a.toNat → a.toNat < 0x8000 →
      read8 a s = (romByte s.cfg.rom (high % s.cfg.romBanks * 0x4000 + (a.toNat - 0x4000)), s)) := by
  constructor
  · intro h
    rw [read8_rom s (by omega), cartRomRead, hi, if_pos h, romIndex, Nat.mod_eq_of_lt h]
  · intro h h'
    have hoff : a.toNat % 0x4000 = a.toNat - 0x4000 := by omega
    rw [read8_rom s h', cartRomRead, hi, if_neg (by omega), romIndex, hoff]

/-- An address of the external-RAM window that shows no cell reads 0xFF and drops writes. -/
theorem xram_hidden {s : State} {a : Addr} (v : Byte) (h : 0xA000 ≤ a.toNat) (h' : a.toNat < 0xC000) (hi : cartRamIndex s a = none) :
    read8 a s = (0xFF, s) ∧ write8 a v s = s := by
  rw [read8_xram s h h', write8_xram v s h h', cartRamRead, cartRamWrite, hi]
  exact ⟨rfl, rfl⟩

/-- An address of the external-RAM window that shows a cell of eight bits reads it and writes it. -/
theorem xram_shown {s : State} {a : Addr} {i : Nat} (v : Byte) (h : 0xA000 ≤ a.toNat) (h' : a.toNat < 0xC000)
    (hi : cartRamIndex s a = some i) (hw : halfByteRam s.mapper = false) :
    read8 a s = (ramByte .xram s.xram i, s) ∧ write8 a v s = { s with xram := Memory.set s.xram i v } := by
  rw [read8_xram s h h', write8_xram v s h h', cartRamRead, cartRamWrite, hi, hw]
  exact ⟨rfl, rfl⟩

/-- The same for a cell of four bits (R102). -/
theorem xram_shown_half {s : State} {a : Addr} {i : Nat} (v : Byte) (h : 0xA000 ≤ a.toNat) (h' : a.toNat < 0xC000)
    (hi : cartRamIndex s a = some i) (hw : halfByteRam s.mapper = true) :
    read8 a s = (0xF0 ||| (ramByte .xram s.xram i &&& 0x0F), s) ∧
    write8 a v s = { s with xram := Memory.set s.xram i (v &&& 0x0F) } := by
  rw [read8_xram s h h', write8_xram v s h h', cartRamRead, cartRamWrite, hi, hw]
  exact ⟨rfl, rfl⟩

/-- The RAM gate of the chips with bytes of RAM: `ram_index` where `gate` holds, bounds checked (R97). -/
theorem xram_gated {s : State} {a : Addr} {gate : Prop} [Decidable gate] {bank : Nat} (v : Byte)
    (h : 0xA000 ≤ a.toNat) (h' : a.toNat < 0xC000) (hw : halfByteRam s.mapper = false)
    (hi : cartRamIndex s a = if gate then ramIndex s.cfg bank (a.toNat - 0xA000) else none) :
    let i := bank * 0x2000 + (a.toNat - 0xA000)
    (gate ∧ i < s.cfg.xramSize →
      read8 a s = (ramByte .xram s.xram i, s) ∧ write8 a v s = { s with xram := Memory.set s.xram i v }) ∧
    (¬ (gate ∧ i < s.cfg.xramSize) → read8 a s = (0xFF, s) ∧ write8 a v s = s) := by
  constructor
  · rintro ⟨hg, hlt⟩
    exact xram_shown v h h' (by rw [hi, if_pos hg, ramIndex, inXram, if_pos hlt]) hw
  · intro hn
    apply xram_hidden v h h'
    rw [hi]
    split
    · next hg => rw [ramIndex, inXram, if_neg fun hlt => hn ⟨hg, hlt⟩]
    · rfl

/-! ### MBC1 (R100) -/

section
variable {a : Addr} (r : Mbc1) (v : Byte)

theorem mbc1Write_ramEn (h : a.toNat < 0x2000) :
    mbc1Write r a v = { r with ramEn := decide (v.toNat % 16 = 0x0A) } := by
  rw [mbc1Write, if_pos h, enablesRam_eq]

theorem mbc1Write_bank1 (h : 0x2000 ≤ a.toNat) (h' : a.toNat < 0x4000) :
    mbc1Write r a v = { r with bank1 := if v.toNat % 32 = 0 then 1 else BitVec.ofNat 5 (v.toNat % 32) } := by
  rw [mbc1Write, if_neg (by omega), if_pos h', atLeastOne_setWidth]; rfl

theorem mbc1Write_bank2 (h : 0x4000 ≤ a.toNat) (h' : a.toNat < 0x6000) :
    mbc1Write r a v = { r with bank2 := BitVec.ofNat 2 (v.toNat % 4) } := by
  rw [mbc1Write, if_neg (by omega), if_neg (by omega), if_pos h', setWidth_eq_ofNat_mod]; rfl

theorem mbc1Write_mode (h : 0x6000 ≤ a.toNat) :
    mbc1Write r a v = { r with mode := BitVec.ofNat 1 (v.toNat % 2) } := by
  rw [mbc1Write, if_neg (by omega), if_neg (by omega), if_neg (by omega), setWidth_eq_ofNat_mod]; rfl

end

/-- MBC1's upper bank number: `bank2` above the five bits of `bank1`. -/
theorem mbc1_bank_number (r : Mbc1) : r.bank2.toNat <<< 5 ||| r.bank1.toNat = r.bank2.toNat * 32 + r.bank1.toNat := by
  rw [← Nat.shiftLeft_add_eq_or_of_lt r.bank1.isLt, Nat.shiftLeft_eq]

theorem cartRomIndex_mbc1 {s : State} {r : Mbc1} (a : Addr) (hm : s.mapper = .mbc1 r) :
    cartRomIndex s a =
      romIndex s.cfg
        (if a.toNat < 0x4000 then (if r.mode = 1 then r.bank2.toNat * 32 else 0) else r.bank2.toNat * 32 + r.bank1.toNat)
        (a.toNat % 0x4000) := by
  have h5 : r.bank2.toNat <<< 5 = r.bank2.toNat * 32 := Nat.shiftLeft_eq _ _
  simp only [cartRomIndex, hm]
  by_cases h : a.toNat < 0x4000
  · rw [if_pos h, if_pos h, h5]
  · rw [if_neg h, if_neg h, mbc1_bank_number]

/-- Settles O57: the register written by the range of the address, the windows by the two lemmas about them. -/
theorem mbc1Cartridge : Obligations.Mbc1Cartridge := by
  intro s r a v hm
  have hwrite (h : a.toNat < 0x8000) : write8 a v s = { s with mapper := .mbc1 (mbc1Write r a v) } := by
    rw [write8_rom v s h, hm]; rfl
  obtain ⟨hlow, hhigh⟩ := read8_bankedRom (cartRomIndex_mbc1 a hm)
  refine ⟨fun h => ?_, fun h h' => ?_, fun h h' => ?_, fun h h' => ?_, hlow, hhigh, fun h h' => ?_⟩
  · rw [hwrite (by omega), mbc1Write_ramEn r v h]
  · rw [hwrite (by omega), mbc1Write_bank1 r v h h']
  · rw [hwrite (by omega), mbc1Write_bank2 r v h h']
  · rw [hwrite h', mbc1Write_mode r v h]
  · exact xram_gated v h h' (by rw [hm]; rfl) (by simp only [cartRamIndex, hm])

/-! ### MBC2 (R102) -/

theorem addr_bit8 (a : Addr) : a.getLsbD 8 = decide (a.toNat / 256 % 2 = 1) := by
  rw [← BitVec.testBit_toNat, Nat.testBit_eq_decide_div_mod_eq]

section
variable {a : Addr} (r : Mbc2) (v : Byte)

theorem mbc2Write_ramEn (h : a.toNat < 0x4000) (hb : a.toNat / 256 % 2 = 0) :
    mbc2Write r a v = { r with ramEn := decide (v.toNat % 16 = 0x0A) } := by
  rw [mbc2Write, if_pos h, addr_bit8, hb, enablesRam_eq]; rfl

theorem mbc2Write_romBank (h : a.toNat < 0x4000) (hb : a.toNat / 256 % 2 = 1) :
    mbc2Write r a v = { r with romBank := if v.toNat % 16 = 0 then 1 else BitVec.ofNat 4 (v.toNat % 16) } := by
  rw [mbc2Write, if_pos h, addr_bit8, hb, atLeastOne_setWidth]; rfl

theorem mbc2Write_above (h : 0x4000 ≤ a.toNat) : mbc2Write r a v = r := by
  rw [mbc2Write, if_neg (by omega)]

end

/-- Settles O58: bit 8 of the address selects the register written; the RAM window shows cells of four bits. -/
theorem mbc2Cartridge : Obligations.Mbc2Cartridge := by
  intro s r a v hm
  have hwrite (h : a.toNat < 0x8000) : write8 a v s = { s with mapper := .mbc2 (mbc2Write r a v) } := by
    rw [write8_rom v s h, hm]; rfl
  have hram : cartRamIndex s a = if r.ramEn then some ((a.toNat - 0xA000) % 512) else none := by
    simp only [cartRamIndex, hm, mbc2Cells]
  obtain ⟨hlow, hhigh⟩ := read8_bankedRom (s := s) (a := a) (low := 0) (high := r.romBank.toNat) (by simp only [cartRomIndex, hm])
  refine ⟨fun h hb => ?_, fun h hb => ?_, fun h h' => ?_, hlow, hhigh, fun h h' he => ?_, fun h h' he => ?_⟩
  · rw [hwrite (by omega), mbc2Write_ramEn r v h hb]
  · rw [hwrite (by omega), mbc2Write_romBank r v h hb]
  · rw [hwrite h', mbc2Write_above r v h, ← hm]
  · exact xram_shown_half v h h' (by rw [hram, he]; rfl) (by rw [hm]; rfl)
  · exact xram_hidden v h h' (by rw [hram, he]; rfl)

/-! ### MBC5 (R106) -/

/-- The low byte of a nine-bit bank number replaced. -/
theorem setLowByte9 (b : BitVec 9) (v : Byte) :
    (b.extractLsb' 8 1 ++ v).setWidth 9 = BitVec.ofNat 9 (b.toNat / 256 * 256 + v.toNat) := by
  have hb := b.isLt
  have happ : (b.extractLsb' 8 1 ++ v).toNat = b.toNat / 256 * 256 + v.toNat := by
    rw [BitVec.toNat_append, ← Nat.shiftLeft_add_eq_or_of_lt v.isLt, Nat.shiftLeft_eq, BitVec.extractLsb'_toNat,
      Nat.shiftRight_eq_div_pow, Nat.mod_eq_of_lt (by omega)]
  rw [← happ, BitVec.ofNat_toNat]

/-- The high bit of a nine-bit bank number replaced. -/
theorem setHighBit9 (b : BitVec 9) (v : Byte) :
    (v.setWidth 1 ++ b.extractLsb' 0 8).setWidth 9 = BitVec.ofNat 9 (v.toNat % 2 * 256 + b.toNat % 256) := by
  have happ : (v.setWidth 1 ++ b.extractLsb' 0 8).toNat = v.toNat % 2 * 256 + b.toNat % 256 := by
    rw [BitVec.toNat_append, ← Nat.shiftLeft_add_eq_or_of_lt (b.extractLsb' 0 8).isLt, Nat.shiftLeft_eq, BitVec.toNat_setWidth,
      BitVec.extractLsb'_toNat, Nat.shiftRight_zero]
  rw [← happ, BitVec.ofNat_toNat]

section
variable {a : Addr} (r : Mbc5) (v : Byte)

theorem mbc5Write_ramEn (h : a.toNat < 0x2000) :
    mbc5Write r a v = { r with ramEn := decide (v.toNat % 16 = 0x0A) } := by
  rw [mbc5Write, if_pos h, enablesRam_eq]

theorem mbc5Write_romBank_low (h : 0x2000 ≤ a.toNat) (h' : a.toNat < 0x3000) :
    mbc5Write r a v = { r with romBank := BitVec.ofNat 9 (r.romBank.toNat / 256 * 256 + v.toNat) } := by
  rw [mbc5Write, if_neg (by omega), if_pos h', setLowByte9]

theorem mbc5Write_romBank_high (h : 0x3000 ≤ a.toNat) (h' : a.toNat < 0x4000) :
    mbc5Write r a v = { r with romBank := BitVec.ofNat 9 (v.toNat % 2 * 256 + r.romBank.toNat % 256) } := by
  rw [mbc5Write, if_neg (by omega), if_neg (by omega), if_pos h', setHighBit9]

theorem mbc5Write_ramBank (h : 0x4000 ≤ a.toNat) (h' : a.toNat < 0x6000) :
    mbc5Write r a v = { r with ramBank := BitVec.ofNat 4 (v.toNat % 16) } := by
  rw [mbc5Write, if_neg (by omega), if_neg (by omega), if_neg (by omega), if_pos h', setWidth_eq_ofNat_mod]; rfl

theorem mbc5Write_above (h : 0x6000 ≤ a.toNat) : mbc5Write r a v = r := by
  rw [mbc5Write, if_neg (by omega), if_neg (by omega), if_neg (by omega), if_neg (by omega)]

end

/-- Settles O60: the register written by the range of the address, the windows by the two lemmas about them. -/
theorem mbc5Cartridge : Obligations.Mbc5Cartridge := by
  intro s r a v hm
  have hwrite (h : a.toNat < 0x8000) : write8 a v s = { s with mapper := .mbc5 (mbc5Write r a v) } := by
    rw [write8_rom v s h, hm]; rfl
  obtain ⟨hlow, hhigh⟩ := read8_bankedRom (s := s) (a := a) (low := 0) (high := r.romBank.toNat) (by simp only [cartRomIndex, hm])
  refine ⟨fun h => ?_, fun h h' => ?_, fun h h' => ?_, fun h h' => ?_, fun h h' => ?_, hlow, hhigh, fun h h' => ?_⟩
  · rw [hwrite (by omega), mbc5Write_ramEn r v h]
  · rw [hwrite (by omega), mbc5Write_romBank_low r v h h']
  · rw [hwrite (by omega), mbc5Write_romBank_high r v h h']
  · rw [hwrite (by omega), mbc5Write_ramBank r v h h']
  · rw [hwrite h', mbc5Write_above r v h, ← hm]
  · exact xram_gated v h h' (by rw [hm]; rfl) (by simp only [cartRamIndex, hm])

end Sys2Proof.Machine
end

section
/-! PROOFS. The 8-bit loads (40_load8.md R150 to R168) and `LD (nn),SP` (41_load16_stack.md R183): the encodings of the register families,
then each shape of load or store as a record update at its instruction's cost; a statement then takes its instructions by their shapes. -/

namespace Sys2Proof.Machine

/-! ### Encodings of the register families (R124) -/

theorem encode_ldRegReg (rd rs : Reg8) : encode (.ldRegReg rd rs) = [opByte (0x40 + 8 * regCode rd + regCode rs)] := by
  cases rd <;> cases rs <;> rfl

theorem encode_ldRegImm (rd : Reg8) (n : Byte) : encode (.ldRegImm rd n) = [opByte (0x06 + 8 * regCode rd), n] := by
  cases rd <;> rfl

theorem encode_ldRegMem (rd : Reg8) : encode (.ldRegMem rd) = [opByte (0x46 + 8 * regCode rd)] := by
  cases rd <;> rfl

theorem encode_ldMemReg (r : Reg8) : encode (.ldMemReg r) = [opByte (0x70 + regCode r)] := by
  cases r <;> rfl

/-! ### The operations as record updates -/

/-- The access is at the address of the old registers, and it leaves the registers alone, so the register written is one of the old file. -/
theorem ldRegFrom_eq (r : Reg8) (a : Addr) (s : State) :
    ldRegFrom r a s = { (read8 a s).2 with regs := s.regs.set8 r (read8 a s).1 } := by
  simp only [ldRegFrom, State.set8, read8_regs]

theorem ldAStep_eq (step : Addr) (s : State) :
    ldAStep step s = { (read8 s.hl s).2 with
      regs := { s.regs with a := (read8 s.hl s).1, h := hi8 (s.hl + step), l := lo8 (s.hl + step) } } := by
  simp only [ldAStep, ldRegFrom_eq, State.setRP, RegFile.setRP, RegFile.set8]

theorem stAStep_eq (step : Addr) (s : State) :
    stAStep step s = { write8 s.hl s.regs.a s with regs := { s.regs with h := hi8 (s.hl + step), l := lo8 (s.hl + step) } } := by
  simp only [stAStep, ldTo, State.setRP, RegFile.setRP, write8_regs]

/-! ### An instruction of each shape, at its cost -/

section
variable {i : Instr} {s : State} {n : Nat} (hcost : (tableCost (opcodeKey i)).1 = n)
include hcost

/-- An instruction with one cost whose operation leaves the configuration alone, in the words of the statements. -/
theorem exec_of_done {u : State} (hexec : exec i s = done (opcodeKey i) false u) (hcfg : u.cfg = s.cfg) :
    exec i s = .next { u with cycles := untakenCost s.cfg i n } := by
  rw [hexec, ← hcfg]; exact done_untaken hcost u

theorem exec_of_ldTo {a : Addr} {v : Byte} (hexec : exec i s = done (opcodeKey i) false (ldTo a v s)) :
    exec i s = .next { write8 a v s with cycles := untakenCost s.cfg i n } :=
  exec_of_done hcost hexec (write8_cfg a v s)

theorem exec_of_ldRegFrom {r : Reg8} {a : Addr} (hexec : exec i s = done (opcodeKey i) false (ldRegFrom r a s)) :
    exec i s = .next { (read8 a s).2 with regs := s.regs.set8 r (read8 a s).1, cycles := untakenCost s.cfg i n } := by
  rw [ldRegFrom_eq] at hexec
  exact exec_of_done hcost hexec (read8_cfg a s)

theorem exec_of_ldAStep {step hl : Addr} (hexec : exec i s = done (opcodeKey i) false (ldAStep step s)) (hhl : s.hl + step = hl) :
    exec i s = .next { (read8 s.hl s).2 with
      regs := { s.regs with a := (read8 s.hl s).1, h := hi8 hl, l := lo8 hl }, cycles := untakenCost s.cfg i n } := by
  rw [ldAStep_eq, hhl] at hexec
  exact exec_of_done hcost hexec (read8_cfg s.hl s)

theorem exec_of_stAStep {step hl : Addr} (hexec : exec i s = done (opcodeKey i) false (stAStep step s)) (hhl : s.hl + step = hl) :
    exec i s = .next { write8 s.hl s.regs.a s with
      regs := { s.regs with h := hi8 hl, l := lo8 hl }, cycles := untakenCost s.cfg i n } := by
  rw [stAStep_eq, hhl] at hexec
  exact exec_of_done hcost hexec (write8_cfg s.hl s.regs.a s)

end

/-! ### The statements -/

/-- Settles O5: the two families, each by its equation and its cost; a register write leaves the configuration alone. -/
theorem loadRegister : Obligations.LoadRegister := by
  intro rd rs n s
  refine ⟨encode_ldRegReg rd rs, ?_, encode_ldRegImm rd n, ?_⟩
  · exact exec_of_done (cost_ldRegReg rd rs) (exec_ldRegReg rd rs s) (set8_cfg s rd _)
  · exact exec_of_done (cost_ldRegImm rd n) (exec_ldRegImm rd n s) (set8_cfg s rd n)

/-- Settles O6: every load is of the shape `ldRegFrom`; the high-page address is a sum (30_encoding.md R129). -/
theorem loadFromMemory : Obligations.LoadFromMemory := by
  intro rd nn n s loads
  refine ⟨⟨encode_ldRegMem rd, ?_⟩, ⟨rfl, ?_⟩, ⟨rfl, ?_⟩, ⟨rfl, ?_⟩, ⟨rfl, ?_⟩, ⟨rfl, ?_⟩⟩
  · exact exec_of_ldRegFrom (cost_ldRegMem rd) (exec_ldRegMem rd s)
  · exact exec_of_ldRegFrom cost_ld_A_mBC (exec_ld_A_mBC s)
  · exact exec_of_ldRegFrom cost_ld_A_mDE (exec_ld_A_mDE s)
  · exact exec_of_ldRegFrom (cost_ld_A_mnn nn) (exec_ld_A_mnn nn s)
  · rw [← highPage_eq]; exact exec_of_ldRegFrom (cost_ldh_A_mn n) (exec_ldh_A_mn n s)
  · rw [← highPage_eq]; exact exec_of_ldRegFrom cost_ldh_A_mC (exec_ldh_A_mC s)

/-- Settles O7: every byte store is of the shape `ldTo`; `LD (nn),SP` is `write16`, low byte first (20_memory.md R82). -/
theorem storeToMemory : Obligations.StoreToMemory := by
  intro r nn n s stores
  refine ⟨⟨encode_ldMemReg r, ?_⟩, ⟨rfl, ?_⟩, ⟨rfl, ?_⟩, ⟨rfl, ?_⟩, ⟨rfl, ?_⟩, ⟨rfl, ?_⟩, ⟨rfl, ?_⟩, ⟨rfl, ?_⟩⟩
  · exact exec_of_ldTo (cost_ldMemReg r) (exec_ldMemReg r s)
  · exact exec_of_ldTo (cost_ld_mHL_n n) (exec_ld_mHL_n n s)
  · exact exec_of_ldTo cost_ld_mBC_A (exec_ld_mBC_A s)
  · exact exec_of_ldTo cost_ld_mDE_A (exec_ld_mDE_A s)
  · exact exec_of_ldTo (cost_ld_mnn_A nn) (exec_ld_mnn_A nn s)
  · rw [← highPage_eq]; exact exec_of_ldTo (cost_ldh_mn_A n) (exec_ldh_mn_A n s)
  · rw [← highPage_eq]; exact exec_of_ldTo cost_ldh_mC_A (exec_ldh_mC_A s)
  · exact exec_of_done (cost_ld_mnn_SP nn) (exec_ld_mnn_SP nn s) (write16_cfg nn s.regs.sp s)

/-- Settles O8: the two shapes `ldAStep` and `stAStep`, each with a step of one up and, as minus one, of one down. -/
theorem loadAndStepHL : Obligations.LoadAndStepHL := by
  intro s loads stores
  have hdown : s.hl + -1 = s.hl - 1 := (BitVec.sub_eq_add_neg _ _).symm
  refine ⟨⟨rfl, ?_⟩, ⟨rfl, ?_⟩, ⟨rfl, ?_⟩, ⟨rfl, ?_⟩⟩
  · exact exec_of_ldAStep cost_ld_A_mHLi (exec_ld_A_mHLi s) rfl
  · exact exec_of_ldAStep cost_ld_A_mHLd (exec_ld_A_mHLd s) hdown
  · exact exec_of_stAStep cost_ld_mHLi_A (exec_ld_mHLi_A s) rfl
  · exact exec_of_stAStep cost_ld_mHLd_A (exec_ld_mHLd_A s) hdown

end Sys2Proof.Machine
end

section
/-! PROOFS. The 16-bit loads and the stack instructions (41_load16_stack.md R180 to R189, without R183): the encodings of the pair families,
then each operation as a record update; a statement then takes its instructions by `exec_of_done`. -/

namespace Sys2Proof.Machine

/-! ### Encodings of the pair families (R125) -/

theorem encode_ldPairImm (p : RP) (nn : Addr) : encode (.ldPairImm p nn) = [opByte (0x01 + 16 * rpCode p), lo8 nn, hi8 nn] := by
  cases p <;> rfl

theorem encode_push (p : RP2) : encode (.push p) = [opByte (0xC5 + 16 * rp2Code p)] := by
  cases p <;> rfl

theorem encode_pop (p : RP2) : encode (.pop p) = [opByte (0xC1 + 16 * rp2Code p)] := by
  cases p <;> rfl

/-! ### The operations as record updates -/

/-- The sum and the flags are those of `addsp` in plain arithmetic (43_alu16.md R240); packed flags are not changed by the mask of `F`. -/
theorem ldHLSp_eq (e : Byte) (s : State) :
    ldHLSp e s = { s with
      regs := { s.regs with
        h := hi8 (s.regs.sp + sext16 e), l := lo8 (s.regs.sp + sext16 e)
        f := packF false false (decide (s.regs.sp.toNat % 16 + e.toNat % 16 > 0xF)) (decide (s.regs.sp.toNat % 256 + e.toNat > 0xFF)) } } := by
  simp only [ldHLSp, addSp_spec, State.setF, maskF_packF, State.setRP, RegFile.setRP]

/-- Neither store changes the registers, so `SP` is the old one less 2 (R180). -/
theorem push16_eq (v : Addr) (s : State) :
    push16 v s = { write8 (s.regs.sp - 2) (lo8 v) (write8 (s.regs.sp - 1) (hi8 v) s) with
      regs := { s.regs with sp := s.regs.sp - 2 } } := by
  simp only [push16, State.setSP, write8_regs]

/-- Neither load changes the registers, so `SP` is the old one plus 2 (R181). -/
theorem pop16_eq (s : State) :
    pop16 s =
      (mk16 (read8 (s.regs.sp + 1) (read8 s.regs.sp s).2).1 (read8 s.regs.sp s).1,
        { (read8 (s.regs.sp + 1) (read8 s.regs.sp s).2).2 with regs := { s.regs with sp := s.regs.sp + 2 } }) := by
  simp only [pop16, State.setSP, read8_regs]

/-- The popped word goes to the pair, beside the `SP` that `pop16` moves (R187, R189). -/
theorem popPair_eq (p : RP2) (s : State) :
    popPair p s = { (read8 (s.regs.sp + 1) (read8 s.regs.sp s).2).2 with
      regs := { s.regs with sp := s.regs.sp + 2 }.setRP2 p
        (mk16 (read8 (s.regs.sp + 1) (read8 s.regs.sp s).2).1 (read8 s.regs.sp s).1) } := by
  simp only [popPair, pop16_eq, State.setRP2]

/-! ### The statements -/

/-- Settles O10: the operation is `ldHLSp`, whose flags are the carries of the low byte. -/
theorem loadHLFromSP : Obligations.LoadHLFromSP := by
  intro e s r
  have hexec := exec_ld_HL_SPe e s
  rw [ldHLSp_eq] at hexec
  exact ⟨rfl, exec_of_done (cost_ld_HL_SPe e) hexec rfl⟩

/-- Settles O9: a pair written is its two halves written, or `SP`. -/
theorem loadPair : Obligations.LoadPair := by
  intro p nn s
  refine ⟨encode_ldPairImm p nn, ?_, rfl, ?_⟩
  · exact exec_of_done (cost_ldPairImm p nn) (exec_ldPairImm p nn s) (setRP_cfg s p nn)
  · exact exec_of_done cost_ld_SP_HL (exec_ld_SP_HL s) (setSP_cfg s s.hl)

/-- Settles O11: `push16` stores the halves of the pair, which are its two registers. -/
theorem pushPair : Obligations.PushPair := by
  intro p s hl
  have hexec := exec_push p s
  have hhi : hi8 (s.getRP2 p) = hl.1 := by cases p <;> exact hi8_mk16 _ _
  have hlo : lo8 (s.getRP2 p) = hl.2 := by cases p <;> exact lo8_mk16 _ _
  rw [push16_eq, hhi, hlo] at hexec
  exact ⟨encode_push p, exec_of_done (cost_push p) hexec (by simp only [write8_cfg])⟩

/-- Settles O12: `popPair` loads the pair with the two bytes read; for `AF` the mask of `F` is the `0xF0` of the statement. -/
theorem popPairCompletes : Obligations.PopPair := by
  intro p s lo hi
  have hexec := exec_pop p s
  rw [popPair_eq] at hexec
  have hcfg : hi.2.cfg = s.cfg := (read8_cfg _ lo.2).trans (read8_cfg _ s)
  refine ⟨encode_pop p, (exec_of_done (cost_pop p) hexec hcfg).trans ?_⟩
  cases p <;> simp only [RegFile.setRP2, hi8_mk16, lo8_mk16, maskF] <;> rfl

end Sys2Proof.Machine
end

section
/-! PROOFS. The 8-bit arithmetic and logic instructions (42_alu8.md R200 to R235): the encodings of the register families, the formulas of
the logic operations and of `CPL`, then each instruction shape as a record update at its instruction's cost; a statement then takes its
instructions by their shapes, each with the formula of its operation. -/

namespace Sys2Proof.Machine

/-! ### Encodings of the register families (R124, R127) -/

theorem encode_aluReg (op : AluOp) (r : Reg8) : encode (.aluReg op r) = [opByte (0x80 + 8 * aluCode op + regCode r)] := by
  cases op <;> cases r <;> rfl

theorem encode_incReg (r : Reg8) : encode (.incReg r) = [opByte (0x04 + 8 * regCode r)] := by
  cases r <;> rfl

theorem encode_decReg (r : Reg8) : encode (.decReg r) = [opByte (0x05 + 8 * regCode r)] := by
  cases r <;> rfl

/-! ### The operations -/

theorem alu_and (a v f : Byte) : alu .and a v f = (a &&& v, packF (decide (a &&& v = 0)) false true false) := rfl
theorem alu_xor (a v f : Byte) : alu .xor a v f = (a ^^^ v, packF (decide (a ^^^ v = 0)) false false false) := rfl
theorem alu_or (a v f : Byte) : alu .or a v f = (a ||| v, packF (decide (a ||| v = 0)) false false false) := rfl

/-- Every accumulator operation packs its flags, so the mask of `F` changes nothing (10_state.md R21). -/
theorem maskF_alu (op : AluOp) (a v f : Byte) : maskF (alu op a v f).2 = (alu op a v f).2 := by
  cases op <;> exact maskF_packF _ _ _ _

/-- The exclusive or with `0xFF` of R225 is the complement. -/
theorem cpl_spec (a f : Byte) : cpl a f = (~~~a, packF (fZ f) true true (fC f)) := by
  have h : a ^^^ 0xFF = ~~~a := BitVec.xor_allOnes
  simp only [cpl, h]

/-! ### An instruction of each shape, at its cost -/

section
variable {i : Instr} {s : State} {n : Nat} (hcost : (tableCost (opcodeKey i)).1 = n)
include hcost

/-- An accumulator operation after an operand access that leaves the registers and the configuration alone. -/
theorem exec_of_aluWith {op : AluOp} {v : Byte} {m : State} {p : Byte × Byte}
    (hexec : exec i s = done (opcodeKey i) false (aluWith op v m)) (hregs : m.regs = s.regs) (hcfg : m.cfg = s.cfg)
    (hp : alu op s.regs.a v s.regs.f = p) :
    exec i s = .next { m with regs := { s.regs with a := p.1, f := p.2 }, cycles := untakenCost s.cfg i n } := by
  have hf : maskF p.2 = p.2 := hp ▸ maskF_alu op s.regs.a v s.regs.f
  rw [aluWith_eq hregs hp hf] at hexec
  exact exec_of_done hcost hexec hcfg

theorem exec_of_updateReg {g : Byte → Byte → Byte × Byte} {r : Reg8} {p : Byte × Byte}
    (hexec : exec i s = done (opcodeKey i) false (updateReg g r s)) (hp : g (s.get8 r) s.regs.f = p) (hf : maskF p.2 = p.2) :
    exec i s = .next { s with regs := { s.regs.set8 r p.1 with f := p.2 }, cycles := untakenCost s.cfg i n } := by
  rw [updateReg_eq hp hf] at hexec
  exact exec_of_done hcost hexec rfl

theorem exec_of_updateMem {g : Byte → Byte → Byte × Byte} {p : Byte × Byte}
    (hexec : exec i s = done (opcodeKey i) false (updateMem g s)) (hp : g (read8 s.hl s).1 s.regs.f = p) (hf : maskF p.2 = p.2) :
    exec i s = .next { write8 s.hl p.1 (read8 s.hl s).2 with
      regs := { s.regs with f := p.2 }, cycles := untakenCost s.cfg i n } := by
  rw [updateMem_eq hp hf] at hexec
  exact exec_of_done hcost hexec (by simp only [write8_cfg, read8_cfg])

theorem exec_of_setF {f : Byte} (hexec : exec i s = done (opcodeKey i) false (s.setF f)) (hf : maskF f = f) :
    exec i s = .next { s with regs := { s.regs with f := f }, cycles := untakenCost s.cfg i n } := by
  rw [State.setF, hf] at hexec
  exact exec_of_done hcost hexec rfl

end

/-! ### The three operand forms of an accumulator operation -/

section
variable {op : AluOp} {s : State} {p : Byte × Byte}

theorem exec_aluReg_of_alu {r : Reg8} (hp : alu op s.regs.a (s.get8 r) s.regs.f = p) :
    exec (.aluReg op r) s =
      .next { s with regs := { s.regs with a := p.1, f := p.2 }, cycles := untakenCost s.cfg (.aluReg op r) 4 } :=
  exec_of_aluWith (cost_aluReg op r) (exec_aluReg op r s) rfl rfl hp

/-- The read at `HL` changes neither the accumulator nor the flags that the operation uses. -/
theorem exec_aluMem_of_alu (hp : alu op s.regs.a (read8 s.hl s).1 s.regs.f = p) :
    exec (.aluMem op) s =
      .next { (read8 s.hl s).2 with
        regs := { s.regs with a := p.1, f := p.2 }, cycles := untakenCost s.cfg (.aluMem op) 8 } :=
  exec_of_aluWith (cost_aluMem op) (exec_aluMem op s) (read8_regs s.hl s) (read8_cfg s.hl s) hp

theorem exec_aluImm_of_alu {n : Byte} (hp : alu op s.regs.a n s.regs.f = p) :
    exec (.aluImm op n) s =
      .next { s with regs := { s.regs with a := p.1, f := p.2 }, cycles := untakenCost s.cfg (.aluImm op n) 8 } :=
  exec_of_aluWith (cost_aluImm op n) (exec_aluImm op n s) rfl rfl hp

end

/-! ### The statements -/

/-- Settles O14: the three operand forms, each with the sum of R200, without and with the carry in. -/
theorem addAndAdc : Obligations.AddAndAdc := by
  intro r n s carry adds
  refine ⟨⟨encode_aluReg .add r, ?_⟩, ⟨encode_aluReg .adc r, ?_⟩, ⟨rfl, ?_⟩, ⟨rfl, ?_⟩, ⟨rfl, ?_⟩, ⟨rfl, ?_⟩⟩
  · exact exec_aluReg_of_alu (alu_add _ _ _)
  · exact exec_aluReg_of_alu (alu_adc _ _ _)
  · exact exec_aluMem_of_alu (alu_add _ _ _)
  · exact exec_aluMem_of_alu (alu_adc _ _ _)
  · exact exec_aluImm_of_alu (alu_add _ _ _)
  · exact exec_aluImm_of_alu (alu_adc _ _ _)

/-- Settles O15: the three operand forms, each with the difference of R201, without and with the borrow in. -/
theorem subAndSbc : Obligations.SubAndSbc := by
  intro r n s carry subs
  refine ⟨⟨encode_aluReg .sub r, ?_⟩, ⟨encode_aluReg .sbc r, ?_⟩, ⟨rfl, ?_⟩, ⟨rfl, ?_⟩, ⟨rfl, ?_⟩, ⟨rfl, ?_⟩⟩
  · exact exec_aluReg_of_alu (alu_sub _ _ _)
  · exact exec_aluReg_of_alu (alu_sbc _ _ _)
  · exact exec_aluMem_of_alu (alu_sub _ _ _)
  · exact exec_aluMem_of_alu (alu_sbc _ _ _)
  · exact exec_aluImm_of_alu (alu_sub _ _ _)
  · exact exec_aluImm_of_alu (alu_sbc _ _ _)

/-- Settles O16: the new `A` of a comparison is the old one, so only `F` changes. -/
theorem compareAccumulator : Obligations.CompareAccumulator := by
  intro r n s compares
  refine ⟨⟨encode_aluReg .cp r, ?_⟩, ⟨rfl, ?_⟩, ⟨rfl, ?_⟩⟩
  · exact exec_aluReg_of_alu (alu_cp _ _ _)
  · exact exec_aluMem_of_alu (alu_cp _ _ _)
  · exact exec_aluImm_of_alu (alu_cp _ _ _)

/-- Settles O17: the three operand forms of each of the three operations. -/
theorem logicalOperations : Obligations.LogicalOperations := by
  intro r n s gives a x m v
  refine ⟨⟨encode_aluReg .and r, ?_⟩, ⟨encode_aluReg .xor r, ?_⟩, ⟨encode_aluReg .or r, ?_⟩,
    ⟨rfl, ?_⟩, ⟨rfl, ?_⟩, ⟨rfl, ?_⟩, ⟨rfl, ?_⟩, ⟨rfl, ?_⟩, ⟨rfl, ?_⟩⟩
  · exact exec_aluReg_of_alu (alu_and _ _ _)
  · exact exec_aluReg_of_alu (alu_xor _ _ _)
  · exact exec_aluReg_of_alu (alu_or _ _ _)
  · exact exec_aluMem_of_alu (alu_and _ _ _)
  · exact exec_aluMem_of_alu (alu_xor _ _ _)
  · exact exec_aluMem_of_alu (alu_or _ _ _)
  · exact exec_aluImm_of_alu (alu_and _ _ _)
  · exact exec_aluImm_of_alu (alu_xor _ _ _)
  · exact exec_aluImm_of_alu (alu_or _ _ _)

/-- Settles O18: both families are of the shape `updateReg`; the carry that `inc8` and `dec8` pack is the old one. -/
theorem incDecRegister : Obligations.IncDecRegister := by
  intro r s old
  refine ⟨encode_incReg r, ?_, encode_decReg r, ?_⟩
  · exact exec_of_updateReg (cost_incReg r) (exec_incReg r s) (inc8_spec _ _) (maskF_packF _ _ _ _)
  · exact exec_of_updateReg (cost_decReg r) (exec_decReg r s) (dec8_spec _ _) (maskF_packF _ _ _ _)

/-- Settles O19: both are of the shape `updateMem`, one read and then one write at `HL`. -/
theorem incDecMemory : Obligations.IncDecMemory := by
  intro s old
  refine ⟨rfl, ?_, rfl, ?_⟩
  · exact exec_of_updateMem cost_inc_mHL (exec_inc_mHL s) (inc8_spec _ _) (maskF_packF _ _ _ _)
  · exact exec_of_updateMem cost_dec_mHL (exec_dec_mHL s) (dec8_spec _ _) (maskF_packF _ _ _ _)

/-- Settles O20: `updateReg` on `A`, with the correction table of R224 by `daa_spec`. -/
theorem decimalAdjust : Obligations.DecimalAdjust := by
  intro s o
  exact ⟨rfl, exec_of_updateReg cost_daa (exec_daa s) (daa_spec _ _) (maskF_packF _ _ _ _)⟩

/-- Settles O21: `CPL` updates `A` and `F`, the other two only `F`. -/
theorem complementAndCarry : Obligations.ComplementAndCarry := by
  intro s f
  refine ⟨rfl, ?_, rfl, ?_, rfl, ?_⟩
  · exact exec_of_updateReg cost_cpl (exec_cpl s) (cpl_spec _ _) (maskF_packF _ _ _ _)
  · exact exec_of_setF cost_scf (exec_scf s) (maskF_packF _ _ _ _)
  · exact exec_of_setF cost_ccf (exec_ccf s) (maskF_packF _ _ _ _)

end Sys2Proof.Machine
end

section
/-! PROOFS. The 16-bit arithmetic instructions (43_alu16.md R240 to R244): the encodings of the pair families, then the two additions as
record updates with the flags in plain arithmetic; a statement then takes its instructions by `exec_of_done`. -/

namespace Sys2Proof.Machine

/-! ### Encodings of the pair families (R125) -/

theorem encode_addHL (p : RP) : encode (.addHL p) = [opByte (0x09 + 16 * rpCode p)] := by
  cases p <;> rfl

theorem encode_incPair (p : RP) : encode (.incPair p) = [opByte (0x03 + 16 * rpCode p)] := by
  cases p <;> rfl

theorem encode_decPair (p : RP) : encode (.decPair p) = [opByte (0x0B + 16 * rpCode p)] := by
  cases p <;> rfl

/-! ### The operations -/

/-- The masks of R241 are remainders modulo 4096, and a word of 16 bits is its number modulo 65536. -/
theorem add16_spec (a b : Addr) (f : Byte) :
    add16 a b f =
      (BitVec.ofNat 16 ((a.toNat + b.toNat) % 65536),
        packF (fZ f) false (decide (a.toNat % 4096 + b.toNat % 4096 > 0xFFF)) (decide (a.toNat + b.toNat > 0xFFFF))) := by
  have hsum : BitVec.ofNat 16 (a.toNat + b.toNat) = BitVec.ofNat 16 ((a.toNat + b.toNat) % 65536) := by
    apply BitVec.eq_of_toNat_eq; simp
  simp only [add16, low12_eq, hsum]

/-- The flags are computed from the old `F`, and packed flags are not changed by the mask of `F` (10_state.md R21). -/
theorem addHL_eq (b : Addr) (s : State) :
    addHL b s = { s with
      regs := { s.regs with
        h := hi8 (BitVec.ofNat 16 ((s.hl.toNat + b.toNat) % 65536)), l := lo8 (BitVec.ofNat 16 ((s.hl.toNat + b.toNat) % 65536))
        f := packF (fZ s.regs.f) false (decide (s.hl.toNat % 4096 + b.toNat % 4096 > 0xFFF))
          (decide (s.hl.toNat + b.toNat > 0xFFFF)) } } := by
  simp only [addHL, add16_spec, State.setF, maskF_packF, State.setRP, RegFile.setRP]

/-- The sum and the flags are those of `addsp` in plain arithmetic (R240), as in `LD HL,SP+e`. -/
theorem addSpOffset_eq (e : Byte) (s : State) :
    addSpOffset e s = { s with
      regs := { s.regs with
        sp := s.regs.sp + sext16 e
        f := packF false false (decide (s.regs.sp.toNat % 16 + e.toNat % 16 > 0xF)) (decide (s.regs.sp.toNat % 256 + e.toNat > 0xFF)) } } := by
  simp only [addSpOffset, addSp_spec, State.setF, maskF_packF, State.setSP]

/-! ### The statements -/

/-- Settles O22: the operation is `addHL` of the pair, both operands read before `HL` is written. -/
theorem addToHL : Obligations.AddToHL := by
  intro p s a b r
  have hexec := exec_addHL p s
  rw [addHL_eq] at hexec
  exact ⟨encode_addHL p, exec_of_done (cost_addHL p) hexec rfl⟩

/-- Settles O24: the operation is `addSpOffset`, whose flags are the carries of the low byte. -/
theorem addToSP : Obligations.AddToSP := by
  intro e s
  have hexec := exec_add_SP_e e s
  rw [addSpOffset_eq] at hexec
  exact ⟨rfl, exec_of_done (cost_add_SP_e e) hexec rfl⟩

/-- Settles O23: a pair is its two registers, or `SP`, both when it is read and when it is written. -/
theorem incDecPair : Obligations.IncDecPair := by
  intro p s written old
  have hold : s.getRP p = old := by cases p <;> rfl
  have hwritten (v : Addr) : s.regs.setRP p v = written v := by cases p <;> rfl
  have hinc := exec_incPair p s
  have hdec := exec_decPair p s
  rw [State.setRP, hold, hwritten] at hinc hdec
  exact ⟨encode_incPair p, exec_of_done (cost_incPair p) hinc rfl, encode_decPair p, exec_of_done (cost_decPair p) hdec rfl⟩

end Sys2Proof.Machine
end

section
/-! PROOFS. The rotates, shifts and bit instructions (44_rotate_shift_bit.md R250 to R276): the encodings of the 0xCB families, then the
bit test, reset and set at their instruction's cost; a statement then takes its instructions by their shapes, the rotates by the shapes
`updateReg` and `updateMem` of the 8-bit arithmetic. -/

namespace Sys2Proof.Machine

/-! ### Encodings of the 0xCB families (R124, R127, R132) -/

theorem encode_rotReg (op : RotOp) (r : Reg8) : encode (.rotReg op r) = [0xCB, opByte (8 * rotCode op + regCode r)] := by
  cases op <;> cases r <;> rfl

theorem encode_rotMem (op : RotOp) : encode (.rotMem op) = [0xCB, opByte (8 * rotCode op + 6)] := by
  cases op <;> rfl

theorem encode_bitReg (b : Fin 8) (r : Reg8) : encode (.bitReg b r) = [0xCB, opByte (0x40 + 8 * b.val + regCode r)] := by
  fin_cases b <;> cases r <;> rfl

theorem encode_bitMem (b : Fin 8) : encode (.bitMem b) = [0xCB, opByte (0x46 + 8 * b.val)] := by
  fin_cases b <;> rfl

theorem encode_resReg (b : Fin 8) (r : Reg8) : encode (.resReg b r) = [0xCB, opByte (0x80 + 8 * b.val + regCode r)] := by
  fin_cases b <;> cases r <;> rfl

theorem encode_resMem (b : Fin 8) : encode (.resMem b) = [0xCB, opByte (0x86 + 8 * b.val)] := by
  fin_cases b <;> rfl

theorem encode_setReg (b : Fin 8) (r : Reg8) : encode (.setReg b r) = [0xCB, opByte (0xC0 + 8 * b.val + regCode r)] := by
  fin_cases b <;> cases r <;> rfl

theorem encode_setMem (b : Fin 8) : encode (.setMem b) = [0xCB, opByte (0xC6 + 8 * b.val)] := by
  fin_cases b <;> rfl

/-! ### The bit operations as record updates -/

/-- The flags are packed, so the mask of `F` changes nothing (10_state.md R21). -/
theorem testBit_eq (b : Fin 8) (v : Byte) (s : State) :
    testBit b v s =
      { s with regs := { s.regs with f := packF (decide (v.toNat / 2 ^ b.val % 2 = 0)) false true (fC s.regs.f) } } := by
  simp only [testBit, bitF_spec, State.setF, maskF_packF]

theorem mapReg_eq (g : Byte → Byte) (r : Reg8) (s : State) :
    mapReg g r s = { s with regs := s.regs.set8 r (g (s.get8 r)) } := rfl

theorem mapMem_eq (g : Byte → Byte) (s : State) : mapMem g s = write8 s.hl (g (read8 s.hl s).1) (read8 s.hl s).2 := rfl

/-! ### An instruction of each shape, at its cost -/

section
variable {i : Instr} {s : State} {n : Nat} (hcost : (tableCost (opcodeKey i)).1 = n)
include hcost

/-- A bit test after an operand access that leaves the registers and the configuration alone. -/
theorem exec_of_testBit {b : Fin 8} {v : Byte} {m : State} (hexec : exec i s = done (opcodeKey i) false (testBit b v m))
    (hregs : m.regs = s.regs) (hcfg : m.cfg = s.cfg) :
    exec i s = .next { m with
      regs := { s.regs with f := packF (decide (v.toNat / 2 ^ b.val % 2 = 0)) false true (fC s.regs.f) }
      cycles := untakenCost s.cfg i n } := by
  rw [testBit_eq, hregs] at hexec
  exact exec_of_done hcost hexec hcfg

theorem exec_of_mapReg {g : Byte → Byte} {r : Reg8} {w : Byte} (hexec : exec i s = done (opcodeKey i) false (mapReg g r s))
    (hw : g (s.get8 r) = w) :
    exec i s = .next { s with regs := s.regs.set8 r w, cycles := untakenCost s.cfg i n } := by
  rw [mapReg_eq, hw] at hexec
  exact exec_of_done hcost hexec rfl

theorem exec_of_mapMem {g : Byte → Byte} {w : Byte} (hexec : exec i s = done (opcodeKey i) false (mapMem g s))
    (hw : g (read8 s.hl s).1 = w) :
    exec i s = .next { write8 s.hl w (read8 s.hl s).2 with cycles := untakenCost s.cfg i n } := by
  rw [mapMem_eq, hw] at hexec
  exact exec_of_done hcost hexec (by simp only [write8_cfg, read8_cfg])

end

/-! ### The statements -/

/-- Settles O25: each is `updateReg` on `A`, and the flags of `rotateAccF` hold `Z` at 0. -/
theorem accumulatorRotates : Obligations.AccumulatorRotates := by
  intro s rotates
  refine ⟨⟨rfl, ?_⟩, ⟨rfl, ?_⟩, ⟨rfl, ?_⟩, ⟨rfl, ?_⟩⟩
  · exact exec_of_updateReg cost_rlca (exec_rlca s) (rotateAccF_spec _ _ _) (maskF_packF _ _ _ _)
  · exact exec_of_updateReg cost_rrca (exec_rrca s) (rotateAccF_spec _ _ _) (maskF_packF _ _ _ _)
  · exact exec_of_updateReg cost_rla (exec_rla s) (rotateAccF_spec _ _ _) (maskF_packF _ _ _ _)
  · exact exec_of_updateReg cost_rra (exec_rra s) (rotateAccF_spec _ _ _) (maskF_packF _ _ _ _)

/-- Settles O26: the family is of the shape `updateReg`, with the formulas of R255 to R262 by `rotateF_spec`. -/
theorem rotateRegister : Obligations.RotateRegister := by
  intro op r s o
  exact ⟨encode_rotReg op r,
    exec_of_updateReg (cost_rotReg op r) (exec_rotReg op r s) (rotateF_spec _ _ _) (maskF_packF _ _ _ _)⟩

/-- Settles O27: the family is of the shape `updateMem`, one read and then one write at `HL`. -/
theorem rotateMemory : Obligations.RotateMemory := by
  intro op s o
  exact ⟨encode_rotMem op, exec_of_updateMem (cost_rotMem op) (exec_rotMem op s) (rotateF_spec _ _ _) (maskF_packF _ _ _ _)⟩

/-- Settles O28: both forms are `testBit`, on the state itself and on the one after the read at `HL`. -/
theorem bitTest : Obligations.BitTest := by
  intro b r s
  refine ⟨encode_bitReg b r, ?_, encode_bitMem b, ?_⟩
  · exact exec_of_testBit (cost_bitReg b r) (exec_bitReg b r s) rfl rfl
  · exact exec_of_testBit (cost_bitMem b) (exec_bitMem b s) (read8_regs s.hl s) (read8_cfg s.hl s)

/-- Settles O29: `clearBit` and `setBit`, mapped over a register and over the byte at `HL`; neither shape looks at the bit. -/
theorem bitResetSet : Obligations.BitResetSet := by
  intro b r s mask v
  refine ⟨⟨encode_resReg b r, ?_⟩, ⟨encode_setReg b r, ?_⟩, ⟨encode_resMem b, ?_⟩, ⟨encode_setMem b, ?_⟩⟩
  · exact exec_of_mapReg (cost_resReg b r) (exec_resReg b r s) rfl
  · exact exec_of_mapReg (cost_setReg b r) (exec_setReg b r s) rfl
  · exact exec_of_mapMem (cost_resMem b) (exec_resMem b s) rfl
  · exact exec_of_mapMem (cost_setMem b) (exec_setMem b s) rfl

end Sys2Proof.Machine
end

section
/-! PROOFS. The control transfers (45_control.md R281 to R290, without the relative jumps): the encodings of the condition families and of
`RST`, then the calls and the return as record updates and a conditional transfer at its two costs; a statement then takes its
instructions by their shapes. -/

namespace Sys2Proof.Machine

/-! ### Encodings of the condition families (R126) and of `RST` -/

theorem encode_jpCond (cc : Cond) (nn : Addr) : encode (.jpCond cc nn) = [opByte (0xC2 + 8 * condCode cc), lo8 nn, hi8 nn] := by
  cases cc <;> rfl

theorem encode_callCond (cc : Cond) (nn : Addr) : encode (.callCond cc nn) = [opByte (0xC4 + 8 * condCode cc), lo8 nn, hi8 nn] := by
  cases cc <;> rfl

theorem encode_retCond (cc : Cond) : encode (.retCond cc) = [opByte (0xC0 + 8 * condCode cc)] := by
  cases cc <;> rfl

theorem encode_rst (y : Fin 8) : encode (.rst y) = [opByte (0xC7 + 8 * y.val)] := by
  fin_cases y <;> rfl

/-! ### The operations as record updates -/

/-- The return address is the old `PC`, pushed before `PC` is replaced (R286). -/
theorem callTo_eq (target : Addr) (s : State) :
    callTo target s = { write8 (s.regs.sp - 2) (lo8 s.regs.pc) (write8 (s.regs.sp - 1) (hi8 s.regs.pc) s) with
      regs := { s.regs with sp := s.regs.sp - 2, pc := target } } := by
  simp only [callTo, push16_eq, State.setPC]

/-- The popped word goes to `PC`, beside the `SP` that `pop16` moves (R288). -/
theorem popPC_eq (s : State) :
    popPC s = { (read8 (s.regs.sp + 1) (read8 s.regs.sp s).2).2 with
      regs := { s.regs with
        sp := s.regs.sp + 2, pc := mk16 (read8 (s.regs.sp + 1) (read8 s.regs.sp s).2).1 (read8 s.regs.sp s).1 } } := by
  simp only [popPC, pop16_eq, State.setPC]

@[simp] theorem callTo_cfg (target : Addr) (s : State) : (callTo target s).cfg = s.cfg := by
  simp only [callTo, setPC_cfg, push16_cfg]

@[simp] theorem popPC_cfg (s : State) : (popPC s).cfg = s.cfg := by
  simp only [popPC, setPC_cfg, pop16_cfg]

/-- The target of `RST` is eight times its field `y` (R290). -/
theorem rstTarget_eq (y : Fin 8) : rstTarget y = BitVec.ofNat 16 (8 * y.val) := by
  rw [rstTarget, Nat.mul_comm]

/-! ### An instruction of each shape, at its cost -/

/-- A conditional transfer that leaves the configuration alone, at the two costs of its instruction (R280). -/
theorem exec_of_whenCond {i : Instr} {s : State} {m n : Nat} {cc : Cond} {f : State → State}
    (hcost : tableCost (opcodeKey i) = (m, n)) (hexec : exec i s = whenCond (opcodeKey i) cc f s) (hcfg : (f s).cfg = s.cfg) :
    exec i s =
      if s.cond cc = true then .next { f s with cycles := takenCost s.cfg i n }
      else .next { s with cycles := untakenCost s.cfg i m } := by
  rw [hexec, whenCond_eq (congrArg Prod.fst hcost) (congrArg Prod.snd hcost), hcfg]

/-! ### The statements -/

/-- Settles O30: the three jumps are writes of `PC`; the flag bit of the statement is the condition of the model. -/
theorem jumpAbsolute : Obligations.JumpAbsolute := by
  intro cc nn s holds
  have hholds : holds = s.cond cc := by cases cc <;> rfl
  refine ⟨rfl, ?_, rfl, ?_, encode_jpCond cc nn, ?_⟩
  · exact exec_of_done (cost_jp_nn nn) (exec_jp_nn nn s) (setPC_cfg s nn)
  · exact exec_of_done cost_jp_HL (exec_jp_HL s) (setPC_cfg s s.hl)
  · rw [hholds]
    exact exec_of_whenCond (cost_jpCond cc nn) (exec_jpCond cc nn s) (setPC_cfg s nn)

/-- Settles O32: both forms are `callTo`, the conditional one only when its condition holds. -/
theorem callSubroutine : Obligations.CallSubroutine := by
  intro cc nn s pushed regs
  have hcall := exec_of_done (cost_call_nn nn) (exec_call_nn nn s) (callTo_cfg nn s)
  have hcond := exec_of_whenCond (cost_callCond cc nn) (exec_callCond cc nn s) (callTo_cfg nn s)
  rw [callTo_eq] at hcall hcond
  exact ⟨rfl, hcall, encode_callCond cc nn, hcond⟩

/-- Settles O33: both forms are `popPC`, the conditional one only when its condition holds. -/
theorem returnFromCall : Obligations.ReturnFromCall := by
  intro cc s lo hi regs
  have hret := exec_of_done cost_ret (exec_ret s) (popPC_cfg s)
  have hcond := exec_of_whenCond (cost_retCond cc) (exec_retCond cc s) (popPC_cfg s)
  rw [popPC_eq] at hret hcond
  exact ⟨rfl, hret, encode_retCond cc, hcond⟩

/-- Settles O34: the restart is `callTo` of its target. -/
theorem restartVector : Obligations.RestartVector := by
  intro y s
  have hrst := exec_of_done (cost_rst y) (exec_rst y s) (callTo_cfg (rstTarget y) s)
  rw [callTo_eq, rstTarget_eq] at hrst
  exact ⟨encode_rst y, hrst⟩

end Sys2Proof.Machine
end

section
/-! PROOFS. The decoder and the encoder (30_encoding.md R120 to R139): what `decode` answers on a sequence that is long enough and on a
shorter one, and what the encoder makes of the instruction that `decodeBytes` answers; the statements follow from the two. -/

namespace Sys2Proof

/-! ### What `decode` answers -/

theorem operandCount_le_two (op : Byte) : operandCount op ≤ 2 := by
  unfold operandCount
  split
  · omega
  · split <;> omega

/-- A sequence with all operand bytes of its opcode decodes; what follows them is left over. -/
theorem decode_cons {op : Byte} {tail : List Byte} (h : operandCount op ≤ tail.length) :
    decode (op :: tail) =
      .ok (decodeBytes op ((tail.take (operandCount op)).getD 0 0) ((tail.take (operandCount op)).getD 1 0),
        tail.drop (operandCount op)) := by
  have hle := operandCount_le_two op
  unfold decode; dsimp only
  generalize operandCount op = n at h hle ⊢
  match n, tail, h, hle with
  | 0, _, _, _ => rfl
  | 1, _ :: _, _, _ => rfl
  | 2, _ :: _ :: _, _, _ => rfl

/-- A sequence without them is refused, by the name of the opcode. -/
theorem decode_truncated {op : Byte} {tail : List Byte} (h : tail.length < operandCount op) :
    decode (op :: tail) = .error (.truncated op) := by
  have hle := operandCount_le_two op
  unfold decode; dsimp only
  generalize operandCount op = n at h hle ⊢
  match n, tail, h, hle with
  | 1, [], _, _ => rfl
  | 2, [], _, _ => rfl
  | 2, [_], _, _ => rfl

/-- What decodes has an opcode and all its operand bytes. -/
theorem decode_ok {bytes rest : List Byte} {i : Instr} (h : decode bytes = .ok (i, rest)) :
    ∃ op tail, bytes = op :: tail ∧ operandCount op ≤ tail.length ∧
      i = decodeBytes op ((tail.take (operandCount op)).getD 0 0) ((tail.take (operandCount op)).getD 1 0) ∧
      rest = tail.drop (operandCount op) := by
  cases bytes with
  | nil => cases h
  | cons op tail =>
    by_cases hlen : operandCount op ≤ tail.length
    · rw [decode_cons hlen] at h
      cases h
      exact ⟨op, tail, rfl, hlen, rfl, rfl⟩
    · rw [decode_truncated (Nat.lt_of_not_le hlen)] at h
      cases h

/-! ### What the encoder makes of a decoded instruction -/

/-- The 0xCB table (R132): each second byte is the one its row is encoded with. -/
theorem encode_decodeExtended (op2 : Byte) : (decodeExtended op2).wf = true ∧ encode (decodeExtended op2) = [0xCB, op2] := by
  revert op2; exact Machine.byte_forall (by decide +kernel)

theorem encode_decodeBytes_zero (op : Byte) :
    operandCount op = 0 → (decodeBytes op 0 0).wf = true ∧ encode (decodeBytes op 0 0) = [op] := by
  revert op; exact Machine.byte_forall (by decide +kernel)

theorem encode_decodeBytes_one (b1 : Byte) :
    ∀ op ∈ twoByteOpcodes, (decodeBytes op b1 0).wf = true ∧ encode (decodeBytes op b1 0) = [op, b1] := by
  simp only [twoByteOpcodes, List.forall_mem_append, List.forall_mem_cons, List.not_mem_nil, false_implies, implies_true, and_true]
  and_intros <;> rfl

theorem encode_decodeBytes_two (b1 b2 : Byte) :
    ∀ op ∈ threeByteOpcodes, (decodeBytes op b1 b2).wf = true ∧
      encode (decodeBytes op b1 b2) = [op, Machine.lo8 (Machine.mk16 b2 b1), Machine.hi8 (Machine.mk16 b2 b1)] := by
  simp only [threeByteOpcodes, List.forall_mem_cons, List.not_mem_nil, false_implies, implies_true, and_true]
  and_intros <;> rfl

/-- The instruction of an opcode with its operand bytes is encoded as these bytes. -/
theorem encode_decodeBytes {op : Byte} {operands : List Byte} (h : operands.length = operandCount op) :
    (decodeBytes op (operands.getD 0 0) (operands.getD 1 0)).wf = true ∧
      encode (decodeBytes op (operands.getD 0 0) (operands.getD 1 0)) = op :: operands := by
  by_cases hcb : op = 0xCB
  · subst hcb
    obtain ⟨b1, rfl⟩ := List.length_eq_one_iff.1 h
    exact encode_decodeExtended b1
  by_cases hone : op ∈ twoByteOpcodes
  · rw [operandCount, if_pos (.inr hone)] at h
    obtain ⟨b1, rfl⟩ := List.length_eq_one_iff.1 h
    exact encode_decodeBytes_one b1 op hone
  by_cases htwo : op ∈ threeByteOpcodes
  · rw [operandCount, if_neg (not_or.2 ⟨hcb, hone⟩), if_pos htwo] at h
    obtain ⟨b1, b2, rfl⟩ := List.length_eq_two.1 h
    have hrow := encode_decodeBytes_two b1 b2 op htwo
    rwa [Machine.lo8_mk16, Machine.hi8_mk16] at hrow
  · have hzero : operandCount op = 0 := by rw [operandCount, if_neg (not_or.2 ⟨hcb, hone⟩), if_neg htwo]
    obtain rfl := List.length_eq_zero_iff.1 (h.trans hzero)
    exact encode_decodeBytes_zero op hzero

/-- An encoding has as many operand bytes as its first byte says. -/
theorem encode_length (i : Instr) : (encode i).length = operandCount ((encode i).getD 0 0) + 1 := by
  cases i <;> rfl

/-- A well-formed instruction is an opcode with its operand bytes, and what the decoder makes of them. -/
theorem encode_eq_cons (i : Instr) (h : i.wf = true) :
    ∃ op operands, encode i = op :: operands ∧ operands.length = operandCount op ∧
      decodeBytes op (operands.getD 0 0) (operands.getD 1 0) = i := by
  have hlength := encode_length i
  have hcovered := Instr.covered i h
  cases hi : encode i with
  | nil => rw [hi] at hlength; cases hlength
  | cons op operands =>
    rw [hi] at hlength hcovered
    exact ⟨op, operands, rfl, Nat.succ.inj hlength, hcovered⟩

/-! ### The statements -/

/-- Settles O1: an opcode with its operand bytes decodes whatever follows, and to the instruction the bytes were taken from. -/
theorem decodeEncode : Obligations.DecodeEncode := by
  intro i hwf rest
  obtain ⟨op, operands, hi, hlength, hdecode⟩ := encode_eq_cons i hwf
  rw [hi, List.cons_append, decode_cons (by rw [List.length_append]; omega), List.take_left' hlength, List.drop_left' hlength, hdecode]

/-- Settles O2: a decoded sequence is an opcode, its operand bytes and the rest. -/
theorem encodeDecode : Obligations.EncodeDecode := by
  intro bytes rest i h
  obtain ⟨op, tail, rfl, hlen, rfl, rfl⟩ := decode_ok h
  obtain ⟨hwf, hencode⟩ := encode_decodeBytes (List.length_take_of_le hlen)
  exact ⟨hwf, by rw [hencode, List.cons_append, List.take_append_drop]⟩

/-- Settles O3: the two lists of the statement are those of `operandCount`. -/
theorem lengthFromFirstByte : Obligations.LengthFromFirstByte := by
  intro op tail one two n
  have hn : n = operandCount op := by
    revert op; exact Machine.byte_forall (by decide +kernel)
  rw [hn]
  refine ⟨fun hlen => ⟨_, decode_cons hlen, ?_⟩, decode_truncated⟩
  rw [(encode_decodeBytes (List.length_take_of_le hlen)).2, List.length_cons, List.length_take_of_le hlen]

/-- Settles O4: each word by running the decoder. -/
theorem sampleWords : Obligations.SampleWords := by
  unfold Obligations.SampleWords
  and_intros <;> rfl

end Sys2Proof
end

section
/-! PROOFS. The step (60_exceptions.md R320 to R340): what the requests leave alone, which of its three kinds a step is, and what every step
keeps: the invariant, the configuration, the sum of cycle counts. -/

namespace Sys2Proof.Machine

/-! ### Taking the requests -/

@[simp] theorem takeRequests_ime (s : State) : (takeRequests s).ime = s.ime := by simp only [takeRequests]; split <;> rfl
@[simp] theorem takeRequests_halted (s : State) : (takeRequests s).halted = s.halted := by simp only [takeRequests]; split <;> rfl
@[simp] theorem takeRequests_imePending (s : State) : (takeRequests s).imePending = s.imePending := by
  simp only [takeRequests]; split <;> rfl

theorem takeRequests_storageOk {s : State} (h : StorageOk s) : StorageOk (takeRequests s) := by
  simp only [takeRequests]
  split
  · exact h
  · exact h.congr rfl rfl rfl rfl rfl rfl

theorem takeRequests_nil {s : State} (h : s.irqLines = []) : takeRequests s = s := by
  simp only [takeRequests, h]

/-- Five lines, above them zeros. -/
theorem setWidth_lines (lines : BitVec 5) : lines.setWidth 8 = 0#3 ++ lines := by
  revert lines; decide

theorem takeRequests_cons {s : State} {lines : BitVec 5} {later : List (BitVec 5)} (h : s.irqLines = lines :: later) :
    takeRequests s = { s with ifr := s.ifr ||| (0#3 ++ lines), irqLines := later } := by
  simp only [takeRequests, h, State.requestIrq, setWidth_lines]

/-! ### Which kind a step is -/

/-- The state in which a step fetches, written out (R320, phases 1 and 3). -/
theorem promoteIme_wake_beginStep (s : State) :
    promoteIme (wake (beginStep s)) =
      { takeRequests s with
        outcome := .handled, halted := false, ime := (takeRequests s).ime || (takeRequests s).imePending, imePending := false } := by
  rw [promoteIme_eq]; rfl

theorem step_idle {s : State} (hh : (beginStep s).halted = true) (hp : (beginStep s).pending = 0) :
    step s = .next (sumCycles (idleStep (beginStep s))) := by
  rw [step, stepPhases, if_pos ⟨hh, hp⟩, tally_next]

theorem step_interrupt {s : State} (hi : (beginStep s).ime = true) (hp : (beginStep s).pending ≠ 0) :
    step s = .next (sumCycles (interruptEntry (beginStep s).pending (wake (beginStep s)))) := by
  rw [step, stepPhases, if_neg fun h => hp h.2, if_pos ⟨hi, hp⟩, tally_next]

theorem step_run {s : State} (hh : (beginStep s).pending = 0 → (beginStep s).halted = false)
    (hi : (beginStep s).pending ≠ 0 → (beginStep s).ime = false) :
    step s = tally (exec (fetchInstr (promoteIme (wake (beginStep s)))).1 (fetchInstr (promoteIme (wake (beginStep s)))).2) := by
  have hidle : ¬ ((beginStep s).halted = true ∧ (beginStep s).pending = 0) := fun h => by simp [hh h.2] at h
  have hentry : ¬ ((wake (beginStep s)).ime = true ∧ (beginStep s).pending ≠ 0) := fun h => by
    have hime : (beginStep s).ime = true := h.1
    simp [hi h.2] at hime
  rw [step, stepPhases, if_neg hidle, if_neg hentry]

/-- Fetching is decoding the bytes that `fetch8` reads from `PC` on, and stopping after the instruction's own (30_encoding.md R122). -/
theorem fetchInstr_of_decode {s : State} {i : Instr} {rest : List Byte}
    (h : decode [(fetch8 s).1, (fetch8 (fetch8 s).2).1, (fetch8 (fetch8 (fetch8 s).2).2).1] = .ok (i, rest)) :
    fetchInstr s =
      (i, if rest.length = 2 then (fetch8 s).2
          else if rest.length = 1 then (fetch8 (fetch8 s).2).2 else (fetch8 (fetch8 (fetch8 s).2).2).2) := by
  have hle := operandCount_le_two (fetch8 s).1
  unfold decode at h; dsimp only at h
  unfold fetchInstr; dsimp only
  generalize operandCount (fetch8 s).1 = n at h hle ⊢
  match n, hle with
  | 0, _ => cases h; rfl
  | 1, _ => cases h; rfl
  | 2, _ => cases h; rfl

/-- The sum after an interrupt entry from a state that is not halted. -/
theorem sumCycles_of_awake {w : State} {regs : RegFile} {c n : Nat} (hh : w.halted = false) (hn : w.cycleTotal = n) :
    sumCycles { w with regs := regs, halted := false, cycles := c } = { w with regs := regs, cycles := c, cycleTotal := n + c } := by
  subst hn
  rw [sumCycles, ← hh]

/-- What runs in a step, its count summed. -/
theorem step_of_exec {s u t : State} {i : Instr} (htotal : u.cycleTotal = s.cycleTotal) (hstep : step s = tally (exec i u))
    (hexec : exec i u = .next t) : step s = .next { t with cycleTotal := s.cycleTotal + t.cycles } := by
  rw [hstep, hexec, tally_next, sumCycles, exec_cycleTotal i u t hexec, htotal]

/-- Fetching leaves the sum of cycle counts alone. -/
theorem fetchInstr_cycleTotal (s : State) : (fetchInstr (promoteIme (wake (beginStep s)))).2.cycleTotal = s.cycleTotal := by
  rw [(fetchInstr_only _).cycleTotal, promoteIme_wake_beginStep]
  exact takeRequests_cycleTotal s

/-! ### The pending source of the lowest number -/

/-- The bits of `IF & IE & 0x1F` below the mask's edge. -/
theorem bitOf_pending (s : State) {n : Nat} (h : n < 5) : bitOf s.pending n = (s.ifr.getLsbD n && s.ie.getLsbD n) := by
  have hmask : ∀ k < 5, (0x1F#8).getLsbD k = true := by decide
  simp only [bitOf, State.pending, BitVec.getLsbD_and]
  rw [show (0x1F : Byte) = 0x1F#8 from rfl, hmask n h, Bool.and_true]

theorem Source.index_lt (src : Source) : src.index < 5 := by cases src <;> decide

/-- A source is the one picked when its bit is set and no lower one is (R332). -/
theorem lowestPending_eq {p : Byte} {src : Source} (h : bitOf p src.index = true) (hlow : ∀ n < src.index, bitOf p n = false) :
    lowestPending p = src := by
  have hskip (n : Nat) (hn : n < src.index) : ¬ bitOf p n = true := by rw [hlow n hn]; decide
  cases src with
  | vblank => exact if_pos h
  | lcdStatus => rw [lowestPending, if_neg (hskip 0 (by decide))]; exact if_pos h
  | timer => rw [lowestPending, if_neg (hskip 0 (by decide)), if_neg (hskip 1 (by decide))]; exact if_pos h
  | serial =>
    rw [lowestPending, if_neg (hskip 0 (by decide)), if_neg (hskip 1 (by decide)), if_neg (hskip 2 (by decide))]; exact if_pos h
  | joypad =>
    rw [lowestPending, if_neg (hskip 0 (by decide)), if_neg (hskip 1 (by decide)), if_neg (hskip 2 (by decide)),
      if_neg (hskip 3 (by decide))]

/-! ### What every step keeps -/

theorem exec_cfg {i : Instr} {s t : State} (h : exec i s = .next t) : t.cfg = s.cfg := by
  obtain h | ⟨A, v, r, _, hr, h⟩ | ⟨A, B, v, w, _, _, _, h⟩ := exec_effect i s t h
  · exact congrArg Storage.cfg h
  · exact (congrArg Storage.cfg h).trans ((write8_cfg A v r).trans hr.cfg)
  · exact (congrArg Storage.cfg h).trans ((write8_cfg B w _).trans (write8_cfg A v s))

theorem beginStep_storageOk {s : State} (h : StorageOk s) : StorageOk (beginStep s) :=
  (takeRequests_storageOk h).congr rfl rfl rfl rfl rfl rfl

theorem promoteIme_storageOf (s : State) : storageOf (promoteIme s) = storageOf s := by rw [promoteIme_eq]; rfl

theorem stepPhases_storageOk {s t : State} (hs : StorageOk s) (h : stepPhases s = .next t) : StorageOk t := by
  have h0 := beginStep_storageOk hs
  have h1 : StorageOk (wake (beginStep s)) := h0.of_storageOf rfl
  obtain ⟨_, _, rfl⟩ | ⟨_, _, rfl⟩ | ⟨u, rfl, hexec⟩ := stepPhases_cases h
  · exact h0.of_storageOf rfl
  · exact interruptEntry_storageOk _ h1
  · exact exec_storageOk (h1.of_storageOf ((fetchInstr_storageOf _).trans (promoteIme_storageOf _))) hexec

theorem stepPhases_flags {s t : State} (hs : lowNibble s.regs.f = 0) (h : stepPhases s = .next t) : lowNibble t.regs.f = 0 := by
  have h0 : lowNibble (beginStep s).regs.f = 0 := by rw [beginStep, takeRequests_regs]; exact hs
  obtain ⟨_, _, rfl⟩ | ⟨_, _, rfl⟩ | ⟨u, rfl, hexec⟩ := stepPhases_cases h
  · exact h0
  · rw [interruptEntry_eq]; exact h0
  · refine exec_flags _ _ _ ?_ hexec
    rw [(fetchInstr_only _).f, promoteIme_eq]; exact h0

theorem stepPhases_cfg {s t : State} (h : stepPhases s = .next t) : t.cfg = s.cfg := by
  have h0 : (beginStep s).cfg = s.cfg := takeRequests_cfg s
  obtain ⟨_, _, rfl⟩ | ⟨_, _, rfl⟩ | ⟨u, rfl, hexec⟩ := stepPhases_cases h
  · exact h0
  · rw [interruptEntry_eq]
    exact ((write8_cfg _ _ _).trans (write8_cfg _ _ _)).trans h0
  · rw [exec_cfg hexec, (fetchInstr_only _).cfg, promoteIme_eq]; exact h0

theorem stepPhases_cycleTotal {s t : State} (h : stepPhases s = .next t) : t.cycleTotal = s.cycleTotal := by
  have h0 : (beginStep s).cycleTotal = s.cycleTotal := takeRequests_cycleTotal s
  obtain ⟨_, _, rfl⟩ | ⟨_, _, rfl⟩ | ⟨u, rfl, hexec⟩ := stepPhases_cases h
  · exact h0
  · rw [interruptEntry_eq]
    exact ((write8_cycleTotal _ _ _).trans (write8_cycleTotal _ _ _)).trans h0
  · rw [exec_cycleTotal _ _ _ hexec, fetchInstr_cycleTotal]

/-! ### The statements -/

/-- Settles O45: the three kinds of step each keep the flags' zero nibble and the well-formed storage; the sum of counts is part of neither. -/
theorem stepKeepsInv : Obligations.StepKeepsInv := by
  intro s t hinv h
  obtain ⟨v, hv, rfl⟩ := step_next.1 h
  obtain ⟨hflags, hstorage⟩ := (inv_iff s).1 hinv
  have hflags' : lowNibble v.regs.f = 0 := stepPhases_flags hflags hv
  exact (inv_iff _).2 ⟨hflags', (stepPhases_storageOk hstorage hv).of_storageOf rfl⟩

/-- Settles O44: the phases always answer, and no phase touches the sum that `tally` adds to. -/
theorem stepTotal : Obligations.StepTotal := by
  intro s
  obtain ⟨v, hv⟩ := stepPhases_total s
  refine ⟨sumCycles v, step_next.2 ⟨v, hv, rfl⟩, ?_⟩
  rw [sumCycles_cycleTotal, sumCycles_cycles, stepPhases_cycleTotal hv]

/-- Settles O48: no kind of step writes the configuration. -/
theorem stepKeepsCartridge : Obligations.StepKeepsCartridge := by
  intro s t h
  obtain ⟨v, hv, rfl⟩ := step_next.1 h
  have hcfg : v.cfg = s.cfg := stepPhases_cfg hv
  exact hcfg

/-- Settles O41: the source taken is the one the statement names, and the entry is `interruptEntry` written out. -/
theorem stepTakesInterrupt : Obligations.StepTakesInterrupt := by
  intro s src s0 pends number vector hime hpends hlower s1
  have hnumber : number = src.index := by cases src <;> rfl
  have hvector : vector = vectorOf s.cfg.vectors src := by cases src <;> rfl
  rw [hnumber] at hpends hlower
  have hbit (n : Nat) (hn : n < 5) : bitOf (beginStep s).pending n = pends n := bitOf_pending _ hn
  have hsrc : bitOf (beginStep s).pending src.index = true := (hbit _ src.index_lt).trans hpends
  have hlow : lowestPending (beginStep s).pending = src :=
    lowestPending_eq hsrc fun n hn => (hbit n (hn.trans src.index_lt)).trans (hlower n hn)
  have hne : (beginStep s).pending ≠ 0 := fun hz => by simp [hz, bitOf] at hsrc
  have hregs : (wake (beginStep s)).regs = s.regs := takeRequests_regs s
  have hcfg : (wake (beginStep s)).cfg = s.cfg := takeRequests_cfg s
  have htotal : s1.cycleTotal = s.cycleTotal := takeRequests_cycleTotal s
  have hs1 : ({ wake (beginStep s) with
      ifr := clearBit (wake (beginStep s)).ifr src.index, ime := false, imePending := false } : State) = s1 := by
    simp only [s1, hnumber]; rfl
  have hentry := interruptEntry_eq (beginStep s).pending (wake (beginStep s))
  rw [hlow, hs1, hregs, hcfg, ← hvector] at hentry
  rw [step_interrupt hime hne, hentry]
  congr 1
  exact sumCycles_of_awake ((write8_halted _ _ _).trans (write8_halted _ _ _))
    (((write8_cycleTotal _ _ _).trans (write8_cycleTotal _ _ _)).trans htotal)

/-- Settles O42: after `EI` nothing is pending that a step could take, and the promotion comes before the fetch. -/
theorem eiDelay : Obligations.EiDelay := by
  intro s t hime hhalted hexec u
  rw [exec_ei] at hexec
  obtain ⟨htime, htpending, hthalted⟩ : t.ime = false ∧ t.imePending = true ∧ t.halted = false := by
    cases hexec; exact ⟨hime, rfl, hhalted⟩
  have hu : promoteIme (wake (beginStep t)) = u := by
    simp only [promoteIme_wake_beginStep, u, takeRequests_ime, takeRequests_imePending, takeRequests_halted, htime, htpending, hthalted,
      Bool.or_true]
  have hstep := step_run (s := t) (fun _ => (takeRequests_halted t).trans hthalted) (fun _ => (takeRequests_ime t).trans htime)
  have htotal := fetchInstr_cycleTotal t
  rw [hu] at hstep htotal
  obtain ⟨v, hv⟩ := exec_total (fetchInstr u).1 (fetchInstr u).2
  exact ⟨htime, htpending, ⟨v, hv, step_of_exec htotal hstep hv⟩, (fetchInstr_only u).ime, (fetchInstr_only u).imePending⟩

/-- Settles O40: the idle step is the first of the three kinds. -/
theorem stepIdles : Obligations.StepIdles := by
  intro s s0 hh hp
  rw [step_idle hh hp, sumCycles, idleStep, beginStep, idleCycles]
  simp only [takeRequests_cycleTotal]
  rfl

/-- Settles O39: the first two conditions rule out the idle step and the interrupt; what remains fetches what decodes. -/
theorem stepRunsInstruction : Obligations.StepRunsInstruction := by
  intro s i rest s0 pend u b0 b1 b2 hh hi hdecode
  have hu : promoteIme (wake (beginStep s)) = u := promoteIme_wake_beginStep s
  have hfetch := fetchInstr_of_decode hdecode
  obtain ⟨t, ht⟩ := exec_total i (fetchInstr u).2
  have hstep := step_run (s := s) hh hi
  have htotal := fetchInstr_cycleTotal s
  rw [hu] at hstep htotal
  rw [hfetch] at hstep ht htotal
  exact ⟨t, ht, step_of_exec htotal hstep ht⟩

/-- Settles O43: the head of the schedule widened by three zeros adds no bit above the fifth. -/
theorem requestsSetFlagBits : Obligations.RequestsSetFlagBits := by
  intro s lines later
  refine ⟨takeRequests_nil, fun h => ⟨takeRequests_cons h, fun n hn => ?_⟩⟩
  have hwidth : decide (n < 8) = true := decide_eq_true hn
  rw [takeRequests_cons h, BitVec.getLsbD_or, ← setWidth_lines, BitVec.getLsbD_setWidth, hwidth]
  by_cases h5 : n < 5
  · simp [h5]
  · simp [h5, BitVec.getLsbD_of_ge lines n (by omega)]

end Sys2Proof.Machine
end

section
/-! PROOFS. The relative jumps (45_control.md R284, R285), the return from a handler (R292), the system instructions, the undefined opcodes
and the row of the byte 0xCB (46_system.md R300 to R306): each operation as a record update at its instruction's cost. -/

namespace Sys2Proof.Machine

/-! ### The relative jumps -/

theorem encode_jrCond (cc : Cond) (e : Byte) : encode (.jrCond cc e) = [opByte (0x20 + 8 * condCode cc), e] := by
  cases cc <;> rfl

/-- A signed offset added modulo 65536, over integers (R284, 30_encoding.md R129). -/
theorem add_sext16 (pc : Addr) (e : Byte) :
    pc + sext16 e = BitVec.ofInt 16 ((pc.toNat : Int) + (if e.toNat < 128 then (e.toNat : Int) else e.toNat - 256)) := by
  have hoffset : (if e.toNat < 128 then (e.toNat : Int) else e.toNat - 256) = e.toInt := by
    rw [BitVec.toInt_eq_toNat_cond]
    split <;> split <;> omega
  rw [hoffset, BitVec.ofInt_add, BitVec.ofInt_natCast, BitVec.ofNat_toNat, BitVec.setWidth_eq]
  rfl

theorem jumpRel_eq (e : Byte) (s : State) : jumpRel e s = { s with regs := { s.regs with pc := s.regs.pc + sext16 e } } := rfl

/-- Settles O31: both forms are `jumpRel`, the conditional one only when its condition holds. -/
theorem jumpRelative : Obligations.JumpRelative := by
  intro cc e s target
  have htarget : s.regs.pc + sext16 e = target := add_sext16 s.regs.pc e
  have hjr := exec_of_done (cost_jr_e e) (exec_jr_e e s) (setPC_cfg s _)
  have hcond := exec_of_whenCond (cost_jrCond cc e) (exec_jrCond cc e s) (setPC_cfg s _)
  rw [jumpRel_eq, htarget] at hjr hcond
  exact ⟨rfl, hjr, encode_jrCond cc e, hcond⟩

/-! ### The return from a handler -/

theorem interruptReturn_eq (s : State) :
    interruptReturn s = { (read8 (s.regs.sp + 1) (read8 s.regs.sp s).2).2 with
      regs := { s.regs with
        sp := s.regs.sp + 2, pc := mk16 (read8 (s.regs.sp + 1) (read8 s.regs.sp s).2).1 (read8 s.regs.sp s).1 }
      ime := true, imePending := false } := by
  rw [interruptReturn, popPC_eq]

/-- Settles O35: the pop of `RET`, and the two fields that `interruptReturn` writes after it. -/
theorem returnFromInterrupt : Obligations.ReturnFromInterrupt := by
  intro s lo hi
  have hreti := exec_of_done cost_reti (exec_reti s) (popPC_cfg s)
  rw [interruptReturn_eq] at hreti
  exact ⟨rfl, hreti⟩

/-! ### The system instructions and the undefined opcodes -/

/-- Settles O36: each of the five at its cost; none of them writes the configuration. -/
theorem systemInstructions : Obligations.SystemInstructions := by
  intro n s
  refine ⟨⟨rfl, ?_⟩, ⟨rfl, ?_⟩, ⟨rfl, ?_⟩, ⟨rfl, ?_⟩, ⟨rfl, ?_⟩⟩
  · exact exec_of_done cost_nop (exec_nop s) rfl
  · exact exec_of_done cost_halt (exec_halt s) rfl
  · exact exec_of_done (cost_stop n) (exec_stop n s) rfl
  · exact exec_of_done cost_di (exec_di s) rfl
  · exact exec_of_done cost_ei (exec_ei s) rfl

theorem encode_undefined {op : Byte} {i : Instr} (h : UndefinedOpcode op i) : encode i = [op] := by cases h <;> rfl
theorem cost_undefined {op : Byte} {i : Instr} (h : UndefinedOpcode op i) : (tableCost (opcodeKey i)).1 = 4 := by cases h <;> rfl

/-- Settles O37: `undefinedOp` appends the anomaly and reports the outcome, and nothing else. -/
theorem undefinedOpcodes : Obligations.UndefinedOpcodes := by
  intro op i h s
  exact ⟨encode_undefined h, exec_of_done (cost_undefined h) (exec_undefined h s) rfl⟩

/-! ### The row of the byte 0xCB -/

section
variable (op : RotOp) (y : Fin 8) (r : Reg8)

/-! The fields of a second byte written from its operands select the row of these operands (30_encoding.md R132). -/

theorem decodeExtended_rotReg : decodeExtended (opByte (8 * rotCode op + regCode r)) = .rotReg op r := by cases op <;> cases r <;> rfl
theorem decodeExtended_rotMem : decodeExtended (opByte (8 * rotCode op + 6)) = .rotMem op := by cases op <;> rfl
theorem decodeExtended_bitReg : decodeExtended (opByte (0x40 + 8 * y.val + regCode r)) = .bitReg y r := by
  fin_cases y <;> cases r <;> rfl
theorem decodeExtended_bitMem : decodeExtended (opByte (0x46 + 8 * y.val)) = .bitMem y := by fin_cases y <;> rfl
theorem decodeExtended_resReg : decodeExtended (opByte (0x80 + 8 * y.val + regCode r)) = .resReg y r := by
  fin_cases y <;> cases r <;> rfl
theorem decodeExtended_resMem : decodeExtended (opByte (0x86 + 8 * y.val)) = .resMem y := by fin_cases y <;> rfl
theorem decodeExtended_setReg : decodeExtended (opByte (0xC0 + 8 * y.val + regCode r)) = .setReg y r := by
  fin_cases y <;> cases r <;> rfl
theorem decodeExtended_setMem : decodeExtended (opByte (0xC6 + 8 * y.val)) = .setMem y := by fin_cases y <;> rfl

end

/-- Settles O38: the row runs the entry that its second byte decodes to, which the fields of that byte name. -/
theorem prefixRow : Obligations.PrefixRow := by
  intro op2 y r op s
  refine ⟨exec_total _ s, ?_, ?_, ?_, ?_, ?_, ?_, ?_, ?_⟩
  · rw [exec_prefix, decodeExtended_rotReg]
  · rw [exec_prefix, decodeExtended_rotMem]
  · rw [exec_prefix, decodeExtended_bitReg]
  · rw [exec_prefix, decodeExtended_bitMem]
  · rw [exec_prefix, decodeExtended_resReg]
  · rw [exec_prefix, decodeExtended_resMem]
  · rw [exec_prefix, decodeExtended_setReg]
  · rw [exec_prefix, decodeExtended_setMem]

end Sys2Proof.Machine
end

section
/-! PROOFS. The frames over all instructions: who may write `F`, `PC`, `SP` and the system state (10_state.md R24 to R29), and what a store
leaves unchanged in memory (20_memory.md R60 to R86). -/

namespace Sys2Proof.Machine

/-! ### The flags -/

theorem f_of_done {k : Nat} {b : Bool} {s u t : State} (hu : u.regs.f = s.regs.f) (h : done k b u = .next t) :
    t.regs.f = s.regs.f := by cases h; exact hu

theorem f_of_whenCond {k : Nat} {cc : Cond} {f : State → State} {s t : State} (hf : (f s).regs.f = s.regs.f)
    (h : whenCond k cc f s = .next t) : t.regs.f = s.regs.f := by
  obtain ⟨_, h⟩ | ⟨_, h⟩ := whenCond_next h
  · exact f_of_done hf h
  · exact f_of_done rfl h

theorem setRP2_f {p : RP2} (hp : p ≠ .af) (g : RegFile) (v : Addr) : (g.setRP2 p v).f = g.f := by
  cases p with
  | af => exact absurd rfl hp
  | _ => rfl

theorem popPC_f (s : State) : (popPC s).regs.f = s.regs.f := by rw [popPC_eq]
theorem callTo_f (v : Addr) (s : State) : (callTo v s).regs.f = s.regs.f := by rw [callTo_eq]

/-- Settles O49: every operation of the list writes registers other than `F`, or none. -/
theorem flagFrame : Obligations.FlagFrame := by
  intro i hi s t h
  cases hi with
  | jpCond cc nn => rw [exec_jpCond] at h; exact f_of_whenCond rfl h
  | jrCond cc e => rw [exec_jrCond] at h; exact f_of_whenCond rfl h
  | callCond cc nn => rw [exec_callCond] at h; exact f_of_whenCond (callTo_f nn s) h
  | retCond cc => rw [exec_retCond] at h; exact f_of_whenCond (popPC_f s) h
  | pop p hp => rw [exec_pop, popPair_eq] at h; exact f_of_done (setRP2_f hp _ _) h
  | undefined op _ hop => rw [exec_undefined hop] at h; exact f_of_done (u := undefinedOp op s) rfl h
  | _ =>
    simp only [exec_ldRegReg, exec_ldRegImm, exec_ldRegMem, exec_ldMemReg, exec_ld_mHL_n, exec_ld_A_mBC, exec_ld_A_mDE, exec_ld_mBC_A,
      exec_ld_mDE_A, exec_ld_A_mnn, exec_ld_mnn_A, exec_ldh_A_mn, exec_ldh_mn_A, exec_ldh_A_mC, exec_ldh_mC_A, exec_ld_A_mHLi,
      exec_ld_A_mHLd, exec_ld_mHLi_A, exec_ld_mHLd_A, exec_ldPairImm, exec_ld_mnn_SP, exec_ld_SP_HL, exec_push, exec_incPair,
      exec_decPair, exec_resReg, exec_resMem, exec_setReg, exec_setMem, exec_jp_nn, exec_jp_HL, exec_jr_e, exec_call_nn, exec_ret,
      exec_rst, exec_reti, exec_nop, exec_halt, exec_stop, exec_di, exec_ei] at h
    refine f_of_done ?_ h
    simp [ldRegReg, ldRegImm, ldRegFrom, ldTo, ldAStep, stAStep, mapReg, mapMem, callTo_f, popPC_f, jumpRel,
      interruptReturn, enterHalt, stopOp, disableInterrupts, enableInterrupts]

/-! ### The control state -/

/-- The part of the state that decides what runs next and what the step reports. -/
structure Control where
  pc         : Addr
  sp         : Addr
  ime        : Bool
  imePending : Bool
  halted     : Bool
  irqLines   : List (BitVec 5)
  outcome    : Report

/-- The control state of a state. -/
def controlOf (s : State) : Control :=
  { pc := s.regs.pc, sp := s.regs.sp, ime := s.ime, imePending := s.imePending, halted := s.halted, irqLines := s.irqLines,
    outcome := s.outcome }

@[simp] theorem controlOf_set8 (s : State) (r : Reg8) (v : Byte) : controlOf (s.set8 r v) = controlOf s := by cases r <;> rfl
@[simp] theorem controlOf_setF (s : State) (v : Byte) : controlOf (s.setF v) = controlOf s := rfl
@[simp] theorem controlOf_setSP (s : State) (v : Addr) : controlOf (s.setSP v) = { controlOf s with sp := v } := rfl
@[simp] theorem controlOf_setPC (s : State) (v : Addr) : controlOf (s.setPC v) = { controlOf s with pc := v } := rfl
@[simp] theorem controlOf_read8 (a : Addr) (s : State) : controlOf (read8 a s).2 = controlOf s := by simp [controlOf]
@[simp] theorem controlOf_write8 (a : Addr) (v : Byte) (s : State) : controlOf (write8 a v s) = controlOf s := by simp [controlOf]
@[simp] theorem controlOf_setRP_hl (s : State) (v : Addr) : controlOf (s.setRP .hl v) = controlOf s := rfl
@[simp] theorem controlOf_setRP2 (s : State) (p : RP2) (v : Addr) : controlOf (s.setRP2 p v) = controlOf s := by cases p <;> rfl

theorem controlOf_setRP {p : RP} (hp : p ≠ .sp) (s : State) (v : Addr) : controlOf (s.setRP p v) = controlOf s := by
  cases p with
  | sp => exact absurd rfl hp
  | _ => rfl

theorem controlOf_push16 (v : Addr) (s : State) : controlOf (push16 v s) = { controlOf s with sp := s.regs.sp - 2 } := by
  simp [push16]

theorem controlOf_pop16 (s : State) : controlOf (pop16 s).2 = { controlOf s with sp := s.regs.sp + 2 } := by
  simp [pop16]

theorem controlOf_addSpOffset (e : Byte) (s : State) :
    controlOf (addSpOffset e s) = { controlOf s with sp := (addSp s.regs.sp e).1 } := rfl

theorem controlOf_callTo (v : Addr) (s : State) : controlOf (callTo v s) = { controlOf s with sp := s.regs.sp - 2, pc := v } := by
  simp [callTo, controlOf_push16]

theorem controlOf_popPC (s : State) : controlOf (popPC s) = { controlOf s with sp := s.regs.sp + 2, pc := (pop16 s).1 } := by
  simp [popPC, controlOf_pop16]

theorem controlOf_interruptReturn (s : State) :
    controlOf (interruptReturn s) =
      { controlOf s with sp := s.regs.sp + 2, pc := (pop16 s).1, ime := true, imePending := false } := by
  have hpop := controlOf_popPC s
  simp only [controlOf, Control.mk.injEq] at hpop ⊢
  simp [interruptReturn, hpop]

theorem controlOf_jumpRel (e : Byte) (s : State) : controlOf (jumpRel e s) = { controlOf s with pc := s.regs.pc + sext16 e } := rfl

theorem controlOf_undefinedOp (op : Byte) (s : State) :
    controlOf (undefinedOp op s) = { controlOf s with outcome := .unimplemented op (s.regs.pc - 1) } := rfl

/-- What an instruction can do to the control state. -/
inductive ControlEffect (i : Instr) (s t : State) : Prop where
  | keeps (h : controlOf t = controlOf s)
  | moves (hi : MovesSP i) (sp : Addr) (h : controlOf t = { controlOf s with sp := sp })
  | jumps (hi : Transfers i) (pc : Addr) (h : controlOf t = { controlOf s with pc := pc })
  | calls (hi : Transfers i) (hi' : MovesSP i) (sp pc : Addr) (h : controlOf t = { controlOf s with sp := sp, pc := pc })
  | reti (hi : i = .reti) (sp pc : Addr) (h : controlOf t = { controlOf s with sp := sp, pc := pc, ime := true, imePending := false })
  | di (hi : i = .di) (h : controlOf t = { controlOf s with ime := false, imePending := false })
  | ei (hi : i = .ei) (h : controlOf t = { controlOf s with imePending := true })
  | halts (hi : i = .halt ∨ ∃ n, i = .stop n) (h : controlOf t = { controlOf s with halted := true })
  | reports (op : Byte) (hi : UndefinedOpcode op i) (r : Report) (h : controlOf t = { controlOf s with outcome := r })

theorem controlOf_done {k : Nat} {b : Bool} {u t : State} (h : done k b u = .next t) : controlOf t = controlOf u := by cases h; rfl

theorem ControlEffect.of_keeps {i : Instr} {k : Nat} {b : Bool} {s u t : State} (hu : controlOf u = controlOf s)
    (h : done k b u = .next t) : ControlEffect i s t := .keeps ((controlOf_done h).trans hu)

/-- The rows of the 0xCB table leave the control state alone. -/
theorem extended_control (op2 : Byte) {s t : State} (h : exec (decodeExtended op2) s = .next t) : controlOf t = controlOf s := by
  revert h
  simp only [decodeExtended]
  split <;> intro h <;>
    simp only [exec_rotReg, exec_rotMem, exec_bitReg, exec_bitMem, exec_resReg, exec_resMem, exec_setReg, exec_setMem] at h <;>
    rw [controlOf_done h] <;>
    simp [updateReg, updateMem, mapReg, mapMem, testBit, testBitMem]

/-- A change of a register pair, which may be `SP`. -/
theorem ControlEffect.of_setRP {i : Instr} {p : RP} {v : Addr} {k : Nat} {s t : State} (hi : p = .sp → MovesSP i)
    (h : done k false (s.setRP p v) = .next t) : ControlEffect i s t := by
  by_cases hp : p = .sp
  · subst hp; exact .moves (hi rfl) v (controlOf_done h)
  · exact .of_keeps (controlOf_setRP hp s v) h

/-- Every instruction has one of the effects on the control state. -/
theorem exec_control (i : Instr) (s t : State) (h : exec i s = .next t) : ControlEffect i s t := by
  induction i using Instr.byFamily with
  | ldPairImm p nn => rw [exec_ldPairImm] at h; exact .of_setRP (by rintro rfl; exact .ldSPImm nn) h
  | incPair p => rw [exec_incPair] at h; exact .of_setRP (by rintro rfl; exact .incSP) h
  | decPair p => rw [exec_decPair] at h; exact .of_setRP (by rintro rfl; exact .decSP) h
  | ld_SP_HL => rw [exec_ld_SP_HL] at h; exact .moves .ld_SP_HL s.hl (controlOf_done h)
  | add_SP_e e => rw [exec_add_SP_e] at h; exact .moves (.add_SP_e e) _ ((controlOf_done h).trans (controlOf_addSpOffset e s))
  | push p => rw [exec_push] at h; exact .moves (.push p) _ ((controlOf_done h).trans (controlOf_push16 _ s))
  | pop p =>
    rw [exec_pop] at h
    exact .moves (.pop p) _ ((controlOf_done h).trans ((controlOf_setRP2 _ p _).trans (controlOf_pop16 s)))
  | jp_nn nn => rw [exec_jp_nn] at h; exact .jumps (.jp_nn nn) nn (controlOf_done h)
  | jp_HL => rw [exec_jp_HL] at h; exact .jumps .jp_HL s.hl (controlOf_done h)
  | jr_e e => rw [exec_jr_e] at h; exact .jumps (.jr_e e) _ ((controlOf_done h).trans (controlOf_jumpRel e s))
  | jpCond cc nn =>
    rw [exec_jpCond] at h
    obtain ⟨_, h⟩ | ⟨_, h⟩ := whenCond_next h
    · exact .jumps (.jpCond cc nn) nn (controlOf_done h)
    · exact .of_keeps rfl h
  | jrCond cc e =>
    rw [exec_jrCond] at h
    obtain ⟨_, h⟩ | ⟨_, h⟩ := whenCond_next h
    · exact .jumps (.jrCond cc e) _ ((controlOf_done h).trans (controlOf_jumpRel e s))
    · exact .of_keeps rfl h
  | call_nn nn =>
    rw [exec_call_nn] at h
    exact .calls (.call_nn nn) (.call_nn nn) _ _ ((controlOf_done h).trans (controlOf_callTo nn s))
  | callCond cc nn =>
    rw [exec_callCond] at h
    obtain ⟨_, h⟩ | ⟨_, h⟩ := whenCond_next h
    · exact .calls (.callCond cc nn) (.callCond cc nn) _ _ ((controlOf_done h).trans (controlOf_callTo nn s))
    · exact .of_keeps rfl h
  | ret => rw [exec_ret] at h; exact .calls .ret .ret _ _ ((controlOf_done h).trans (controlOf_popPC s))
  | retCond cc =>
    rw [exec_retCond] at h
    obtain ⟨_, h⟩ | ⟨_, h⟩ := whenCond_next h
    · exact .calls (.retCond cc) (.retCond cc) _ _ ((controlOf_done h).trans (controlOf_popPC s))
    · exact .of_keeps rfl h
  | rst y => rw [exec_rst] at h; exact .calls (.rst y) (.rst y) _ _ ((controlOf_done h).trans (controlOf_callTo _ s))
  | reti => rw [exec_reti] at h; exact .reti rfl _ _ ((controlOf_done h).trans (controlOf_interruptReturn s))
  | di => rw [exec_di] at h; exact .di rfl (controlOf_done h)
  | ei => rw [exec_ei] at h; exact .ei rfl (controlOf_done h)
  | halt => rw [exec_halt] at h; exact .halts (.inl rfl) (controlOf_done h)
  | stop n => rw [exec_stop] at h; exact .halts (.inr ⟨n, rfl⟩) (controlOf_done h)
  | prefix_CB b => rw [exec_prefix] at h; exact .keeps (extended_control b h)
  | undefined_D3 => rw [exec_undefined .xD3] at h; exact .reports _ .xD3 _ ((controlOf_done h).trans (controlOf_undefinedOp _ s))
  | undefined_DB => rw [exec_undefined .xDB] at h; exact .reports _ .xDB _ ((controlOf_done h).trans (controlOf_undefinedOp _ s))
  | undefined_DD => rw [exec_undefined .xDD] at h; exact .reports _ .xDD _ ((controlOf_done h).trans (controlOf_undefinedOp _ s))
  | undefined_E3 => rw [exec_undefined .xE3] at h; exact .reports _ .xE3 _ ((controlOf_done h).trans (controlOf_undefinedOp _ s))
  | undefined_E4 => rw [exec_undefined .xE4] at h; exact .reports _ .xE4 _ ((controlOf_done h).trans (controlOf_undefinedOp _ s))
  | undefined_EB => rw [exec_undefined .xEB] at h; exact .reports _ .xEB _ ((controlOf_done h).trans (controlOf_undefinedOp _ s))
  | undefined_EC => rw [exec_undefined .xEC] at h; exact .reports _ .xEC _ ((controlOf_done h).trans (controlOf_undefinedOp _ s))
  | undefined_ED => rw [exec_undefined .xED] at h; exact .reports _ .xED _ ((controlOf_done h).trans (controlOf_undefinedOp _ s))
  | undefined_F4 => rw [exec_undefined .xF4] at h; exact .reports _ .xF4 _ ((controlOf_done h).trans (controlOf_undefinedOp _ s))
  | undefined_FC => rw [exec_undefined .xFC] at h; exact .reports _ .xFC _ ((controlOf_done h).trans (controlOf_undefinedOp _ s))
  | undefined_FD => rw [exec_undefined .xFD] at h; exact .reports _ .xFD _ ((controlOf_done h).trans (controlOf_undefinedOp _ s))
  | _ =>
    simp only [exec_addHL, exec_aluImm, exec_aluMem, exec_aluReg, exec_ccf, exec_cpl, exec_daa, exec_decReg, exec_dec_mHL, exec_incReg,
      exec_inc_mHL, exec_ldMemReg, exec_ldRegImm, exec_ldRegMem, exec_ldRegReg, exec_ld_A_mBC, exec_ld_A_mDE, exec_ld_A_mHLd,
      exec_ld_A_mHLi, exec_ld_A_mnn, exec_ld_HL_SPe, exec_ld_mBC_A, exec_ld_mDE_A, exec_ld_mHL_n, exec_ld_mHLd_A, exec_ld_mHLi_A,
      exec_ld_mnn_A, exec_ld_mnn_SP, exec_ldh_A_mC, exec_ldh_A_mn, exec_ldh_mC_A, exec_ldh_mn_A, exec_nop, exec_rla, exec_rlca, exec_rra,
      exec_rrca, exec_scf, exec_rotReg, exec_rotMem, exec_bitReg, exec_bitMem, exec_resReg, exec_resMem, exec_setReg, exec_setMem] at h
    refine .of_keeps ?_ h
    simp [ldRegReg, ldRegImm, ldRegFrom, ldTo, ldAStep, stAStep, write16, aluWith, aluMem, updateReg, updateMem, mapReg, mapMem, addHL,
      ldHLSp, testBit, testBitMem]

/-- What an effect leaves alone, field by field: an instruction that is not of the kind rules the effect out. -/
theorem ControlEffect.frame {i : Instr} {s t : State} (h : ControlEffect i s t) :
    (¬ Transfers i → (controlOf t).pc = (controlOf s).pc) ∧
    (¬ MovesSP i → (controlOf t).sp = (controlOf s).sp) ∧
    (i ≠ .di → i ≠ .reti → (controlOf t).ime = (controlOf s).ime) ∧
    (i ≠ .di → i ≠ .reti → i ≠ .ei → (controlOf t).imePending = (controlOf s).imePending) ∧
    (i ≠ .halt → (∀ n, i ≠ .stop n) → (controlOf t).halted = (controlOf s).halted) ∧
    (controlOf t).irqLines = (controlOf s).irqLines ∧
    ((∀ op, ¬ UndefinedOpcode op i) → (controlOf t).outcome = (controlOf s).outcome) := by
  cases h with
  | keeps h => simp [h]
  | moves hi sp h => simp [h, hi]
  | jumps hi pc h => simp [h, hi]
  | calls hi hi' sp pc h => simp [h, hi, hi']
  | reti hi sp pc h => subst hi; simp [h, Transfers.reti, MovesSP.reti]
  | di hi h => simp [h, hi]
  | ei hi h => simp [h, hi]
  | halts hi h => obtain rfl | ⟨n, rfl⟩ := hi <;> simp [h]
  | reports op hi r h => simp only [h, implies_true, true_and]; exact fun hn => absurd hi (hn op)

/-- Settles O50: the frame of the instruction's effect on the control state; the configuration and the sum are no part of it. -/
theorem controlFrame : Obligations.ControlFrame := by
  intro i s t h
  obtain ⟨hpc, hsp, hime, hpending, hhalted, hlines, houtcome⟩ := (exec_control i s t h).frame
  exact ⟨hpc, hsp, hime, hpending, hhalted, exec_cfg h, hlines, exec_cycleTotal i s t h, houtcome⟩

/-! ### Memory -/

/-- What a store may change depends on the mapper state and the configuration alone. -/
theorem mayChange_congr {s t : State} (hm : t.mapper = s.mapper) (hc : t.cfg = s.cfg) (A a : Addr) :
    mayChange t A a ↔ mayChange s A a := by
  simp only [mayChange, cellOf_congr hm hc, triggersDma_congr hc]

/-- Outside the external-RAM window the mapper does not matter to the cell. -/
theorem cellOf_outside_xram {s t : State} (hc : t.cfg = s.cfg) {a : Addr} (ha : regionOf a ≠ .xram) : cellOf t a = cellOf s a := by
  simp only [cellOf, hc]
  cases hr : regionOf a with
  | xram => exact absurd hr ha
  | _ => rfl

/-- No neighbour of the ROM window lies in the external-RAM window. -/
theorem neighbour_of_rom {A B : Addr} (hA : regionOf A = .rom) (hAB : B = A + 1 ∨ A = B + 1) : regionOf B ≠ .xram := by
  intro hB
  have hA' := ((regionOf_iff A .rom).1 hA).2
  have hB' := (regionOf_iff B .xram).1 hB
  simp only [Region.bounds] at hA' hB'
  have hnext (x : Addr) : (x + 1).toNat = (x.toNat + 1) % 2 ^ 16 := by rw [BitVec.toNat_add]; rfl
  obtain rfl | rfl := hAB
  · rw [hnext] at hB'; omega
  · rw [hnext] at hA'; omega

/-- A store to a neighbouring address, after a store that may not change what an address shows, may change what it could before. -/
theorem mayChange_write8 {s : State} {A B a : Addr} (v : Byte) (hAB : B = A + 1 ∨ A = B + 1) (hA : ¬ mayChange s A a) :
    mayChange (write8 A v s) B a ↔ mayChange s B a := by
  have hcfg := write8_cfg A v s
  by_cases hrom : regionOf A = .rom
  · have ha : regionOf a ≠ .xram := fun ha => hA (.inr (.inr (.inr ⟨hrom, .inr ha⟩)))
    simp only [mayChange, cellOf_outside_xram hcfg ha, cellOf_outside_xram hcfg (neighbour_of_rom hrom hAB), triggersDma_congr hcfg]
  · exact mayChange_congr (write8_mapper v hrom) hcfg B a

/-- Settles O51: the instruction's effect on storage is at most two stores, each at an address that it is said to store at. -/
theorem memoryFrame : Obligations.MemoryFrame := by
  intro i s t h
  constructor
  · intro a hp hstores
    obtain h | ⟨A, v, r, hA, hr, h⟩ | ⟨A, B, v, w, hA, hB, hAB, h⟩ := exec_effect i s t h
    · exact peek_congr a h hp
    · have hpr : isPort r a = false := (isPort_congr hr.cfg a).trans hp
      have hr' : peek r a = peek s a := peek_congr a hr.storageOf hp
      have hmay : ¬ mayChange r A a := fun hm =>
        hstores A hA ((mayChange_congr (congrArg Storage.mapper hr.storageOf) hr.cfg A a).1 hm)
      rw [peek_congr a h ((isPort_congr (write8_cfg A v r) a).trans hpr), write8_frame v hpr hmay, hr']
    · have hp1 : isPort (write8 A v s) a = false := (isPort_congr (write8_cfg A v s) a).trans hp
      have hp2 := (isPort_congr (write8_cfg B w (write8 A v s)) a).trans hp1
      have hmay : ¬ mayChange (write8 A v s) B a := fun hm => hstores B hB ((mayChange_write8 v hAB (hstores A hA)).1 hm)
      rw [peek_congr a h hp2, write8_frame w hp1 hmay, write8_frame v hp (hstores A hA)]
  · intro hstores
    obtain h | ⟨A, v, r, hA, hr, h⟩ | ⟨A, B, v, w, hA, hB, hAB, h⟩ := exec_effect i s t h
    · exact congrArg Storage.mapper h
    · exact (congrArg Storage.mapper h).trans ((write8_mapper v (hstores A hA)).trans (congrArg Storage.mapper hr.storageOf))
    · exact (congrArg Storage.mapper h).trans ((write8_mapper w (hstores B hB)).trans (write8_mapper v (hstores A hA)))

end Sys2Proof.Machine
end

section
/-! PROOFS. Memory by region and by cell (20_memory.md R60 to R86): what an access to each region answers and changes, a read after a write
to the same cell, and the stack on cells (41_load16_stack.md R181). -/

namespace Sys2Proof.Machine

/-! ### Writes that start no copy -/

theorem write8_of_not_io {a : Addr} (v : Byte) (s : State) (h : regionOf a ≠ .io) : write8 a v s = writeCell a v s := by
  have ht : triggersDma a s = false := decide_eq_false fun hio => h hio.1
  rw [write8, ht]; rfl

theorem write8_of_ne_dma {a : Addr} (v : Byte) (s : State) (h : a ≠ s.cfg.dmaAddr) : write8 a v s = writeCell a v s := by
  have ht : triggersDma a s = false := decide_eq_false fun hio => h hio.2.2
  rw [write8, ht]; rfl

theorem write8_ifr {a : Addr} (v : Byte) (s : State) (h : a = s.cfg.ifAddr) : write8 a v s = writeCell a v s := by
  have ht : triggersDma a s = false := decide_eq_false fun hio => hio.2.1 h
  rw [write8, ht]; rfl

/-! ### The regions of R61 -/

section
variable {a : Addr} (v : Byte) (s : State)

theorem access_vram_unattached (hr : regionOf a = .vram) (hatt : s.cfg.vramAttached = false) :
    read8 a s = (0xFF, s) ∧ write8 a v s = s := by
  rw [write8_of_not_io v s (by rw [hr]; decide)]
  simp [read8, writeCell, hr, hatt]

theorem access_vram_attached (hr : regionOf a = .vram) (hatt : s.cfg.vramAttached = true) :
    (∃ b, read8 a s = (b, { s with portLog := s.portLog ++ [.vramRead a], portReads := s.portReads + 1 })) ∧
    write8 a v s = { s with portLog := s.portLog ++ [.vramWrite a v] } := by
  rw [write8_of_not_io v s (by rw [hr]; decide)]
  simp only [read8, writeCell, hr, hatt]
  exact ⟨⟨_, rfl⟩, rfl⟩

theorem cartRamWrite_only : ∃ x, cartRamWrite s a v = { s with xram := x } := by
  unfold cartRamWrite
  split <;> exact ⟨_, rfl⟩

theorem access_wram (hr : regionOf a = .wram) :
    read8 a s = (ramByte .wram s.wram (a.toNat - 0xC000), s) ∧
    write8 a v s = { s with wram := Memory.set s.wram (a.toNat - 0xC000) v } := by
  rw [write8_of_not_io v s (by rw [hr]; decide)]
  simp only [read8, writeCell, hr]
  exact ⟨rfl, rfl⟩

/-- An echo address is the work-RAM address 0x2000 below it (R67). -/
theorem access_mirror (hr : regionOf a = .mirror) :
    read8 a s = read8 (a - 0x2000) s ∧ write8 a v s = write8 (a - 0x2000) v s := by
  have hlow : regionOf (a - 0x2000) = .wram := by
    have hrange := (regionOf_iff a .mirror).1 hr
    have hsub : (a - 0x2000).toNat = a.toNat - 0x2000 := toNat_unmirror hr
    rw [regionOf_iff, hsub]
    simp only [Region.bounds] at hrange ⊢
    omega
  rw [write8_of_not_io v s (by rw [hr]; decide), write8_of_not_io v s (by rw [hlow]; decide)]
  simp only [read8, writeCell, hr, hlow, unmirror, and_self]

theorem access_oam (hr : regionOf a = .oam) :
    read8 a s = (ramByte .oam s.oam (a.toNat - 0xFE00), s) ∧
    write8 a v s = { s with oam := Memory.set s.oam (a.toNat - 0xFE00) v } := by
  rw [write8_of_not_io v s (by rw [hr]; decide)]
  simp only [read8, writeCell, hr, and_self]

theorem access_unusable (hr : regionOf a = .unusable) :
    read8 a s = (0xFF, { s with anomalies := s.anomalies ++ [.unusableRead a] }) ∧
    write8 a v s = { s with anomalies := s.anomalies ++ [.unusableWrite a v] } := by
  rw [write8_of_not_io v s (by rw [hr]; decide)]
  simp only [read8, writeCell, hr, emit, and_self]

theorem access_ifr (hr : regionOf a = .io) (hi : a = s.cfg.ifAddr) :
    read8 a s = (s.ifr, s) ∧ write8 a v s = { s with ifr := v } := by
  rw [write8_ifr v s hi]
  simp only [read8, writeCell, hr, if_pos hi, and_self]

theorem access_dma (hr : regionOf a = .io) (hi : a ≠ s.cfg.ifAddr) (hd : a = s.cfg.dmaAddr) :
    read8 a s = (s.dma, s) ∧ write8 a v s = dmaCopy v { s with dma := v } := by
  have ht : triggersDma a s = true := decide_eq_true ⟨hr, hi, hd⟩
  rw [write8, if_pos ht]
  simp only [read8, writeCell, hr, if_neg hi, if_pos hd, and_self]

theorem access_io_unattached (hr : regionOf a = .io) (hi : a ≠ s.cfg.ifAddr) (hd : a ≠ s.cfg.dmaAddr)
    (hatt : s.cfg.ioAttached = false) : read8 a s = (0xFF, s) ∧ write8 a v s = s := by
  rw [write8_of_ne_dma v s hd]
  simp [read8, writeCell, hr, hi, hd, hatt]

theorem access_io_attached (hr : regionOf a = .io) (hi : a ≠ s.cfg.ifAddr) (hd : a ≠ s.cfg.dmaAddr) (hatt : s.cfg.ioAttached = true) :
    (∃ b, read8 a s = (b, { s with portLog := s.portLog ++ [.ioRead a], portReads := s.portReads + 1 })) ∧
    write8 a v s = { s with portLog := s.portLog ++ [.ioWrite a v] } := by
  rw [write8_of_ne_dma v s hd]
  simp only [read8, writeCell, hr, if_neg hi, if_neg hd, hatt]
  exact ⟨⟨_, rfl⟩, rfl⟩

theorem access_hram (hr : regionOf a = .hram) :
    read8 a s = (ramByte .hram s.hram (a.toNat - 0xFF80), s) ∧
    write8 a v s = { s with hram := Memory.set s.hram (a.toNat - 0xFF80) v } := by
  rw [write8_of_not_io v s (by rw [hr]; decide)]
  simp only [read8, writeCell, hr, and_self]

theorem access_ie (hr : regionOf a = .ie) : read8 a s = (s.ie, s) ∧ write8 a v s = { s with ie := v } := by
  rw [write8_of_not_io v s (by rw [hr]; decide)]
  simp only [read8, writeCell, hr, and_self]

end

/-- Settles O52: each range is a region, and each region has its two accesses. -/
theorem memoryMap : Obligations.MemoryMap := by
  intro a v s n
  refine ⟨fun h => ?_, fun h h' hatt => ?_, fun h h' hatt => ?_, fun h h' => ?_, fun h h' => ?_, fun h h' => ?_, fun h h' => ?_,
    fun h h' => ?_, fun h h' hi => ?_, fun h h' hi hd => ?_, fun h h' hi hd hatt => ?_, fun h h' hi hd hatt => ?_, fun h h' => ?_,
    fun h => ?_⟩
  · rw [read8_rom s h, write8_rom v s h]; exact ⟨rfl, _, rfl⟩
  · exact access_vram_unattached v s ((regionOf_iff a .vram).2 ⟨h, h'⟩) hatt
  · exact access_vram_attached v s ((regionOf_iff a .vram).2 ⟨h, h'⟩) hatt
  · rw [read8_xram s h h', write8_xram v s h h']; exact ⟨rfl, cartRamWrite_only v s⟩
  · exact access_wram v s ((regionOf_iff a .wram).2 ⟨h, h'⟩)
  · exact access_mirror v s ((regionOf_iff a .mirror).2 ⟨h, h'⟩)
  · exact access_oam v s ((regionOf_iff a .oam).2 ⟨h, h'⟩)
  · exact access_unusable v s ((regionOf_iff a .unusable).2 ⟨h, h'⟩)
  · exact access_ifr v s ((regionOf_iff a .io).2 ⟨h, h'⟩) hi
  · exact access_dma v s ((regionOf_iff a .io).2 ⟨h, h'⟩) hi hd
  · exact access_io_unattached v s ((regionOf_iff a .io).2 ⟨h, h'⟩) hi hd hatt
  · exact access_io_attached v s ((regionOf_iff a .io).2 ⟨h, h'⟩) hi hd hatt
  · exact access_hram v s ((regionOf_iff a .hram).2 ⟨h, h'⟩)
  · exact access_ie v s ((regionOf_iff a .ie).2 ⟨h.ge, a.isLt⟩)

/-! ### A read after a write to the same cell -/

/-- A written cell reads as what was written; of an MBC2 cell four bits are kept, and read under ones (R102). -/
theorem cellValue_setCell_self (s : State) (v : Byte) (c : Cell) :
    cellValue (setCell s v c) c =
      (match c with
        | .xram _ => if halfByteRam s.mapper = true then 0xF0 ||| (v &&& 0x0F) else v
        | _ => v) := by
  cases c with
  | xram i =>
    simp only [cellValue, setCell, ramByte_set_self]
    cases halfByteRam s.mapper
    · rfl
    · simp only [if_true, BitVec.and_assoc, BitVec.and_self]
  | ifr => rfl
  | dma => rfl
  | ie => rfl
  | _ => exact ramByte_set_self _ _ _ _

/-- Where no cell is a half-byte, a written cell reads as the byte. -/
theorem cellValue_setCell_byte {s : State} (v : Byte) (c : Cell) (h : halfByteRam s.mapper = false) :
    cellValue (setCell s v c) c = v := by
  rw [cellValue_setCell_self, h]
  cases c <;> rfl

theorem cellOf_triggersDma {s : State} {a : Addr} (h : triggersDma a s = true) : cellOf s a = some .dma := by
  obtain ⟨hr, hi, hd⟩ := of_decide_eq_true h
  simp only [cellOf, hr, if_neg hi, if_pos hd]

theorem regionOf_dma {s : State} {a : Addr} (h : cellOf s a = some .dma) : regionOf a = .io := by
  simp only [cellOf] at h
  cases hr : regionOf a <;> simp [hr] at h ⊢

/-- Settles O53: both addresses read and write the cell; the copy that a write to the DMA register starts is in OAM, not in that cell. -/
theorem readBack : Obligations.ReadBack := by
  intro s A a v c hA ha
  have hcell : cellOf (writeCell A v s) a = some c := by
    rw [writeCell_cell v hA, cellOf_congr (setCell_mapper s v c) (setCell_cfg s v c), ha]
  have hwritten : peek (writeCell A v s) a = cellValue (setCell s v c) c := by
    rw [peek_cell hcell, writeCell_cell v hA]
  refine Eq.trans ?_ (cellValue_setCell_self s v c)
  rw [← hwritten, write8]
  split
  · next ht =>
    obtain rfl : Cell.dma = c := Option.some.inj ((cellOf_triggersDma ht).symm.trans hA)
    obtain ⟨oam, hoam⟩ := dmaCopy_storageOf v (writeCell A v s)
    exact peek_oam hoam (isPort_of_cell hcell) (by rw [regionOf_dma ha]; decide)
  · rfl

theorem write8_cell {s : State} {a : Addr} {c : Cell} (v : Byte) (h : cellOf s a = some c) (ht : triggersDma a s = false) :
    write8 a v s = setCell s v c := by
  rw [write8, if_neg (by rw [ht]; decide), writeCell_cell v h]

/-- The pushed state, cell by cell. -/
theorem push16_cells {s : State} {c d : Cell} (v : Addr) (hc : cellOf s (s.regs.sp - 1) = some c) (hd : cellOf s (s.regs.sp - 2) = some d)
    (htc : triggersDma (s.regs.sp - 1) s = false) (htd : triggersDma (s.regs.sp - 2) s = false) :
    push16 v s = (setCell (setCell s (hi8 v) c) (lo8 v) d).setSP (s.regs.sp - 2) := by
  have hcfg := setCell_cfg s (hi8 v) c
  have hd' := (cellOf_congr (setCell_mapper s (hi8 v) c) hcfg (s.regs.sp - 2)).trans hd
  rw [push16, write8_cell _ hc htc, write8_cell _ hd' ((triggersDma_congr hcfg _).trans htd)]

/-- What `pop16` answers where `SP` and `SP + 1` are no peripheral's: the two bytes there. -/
theorem pop16_word {s : State} (hp : isPort s (s.regs.sp + 1) = false) :
    (pop16 s).1 = mk16 (peek s (s.regs.sp + 1)) (peek s s.regs.sp) := by
  rw [pop16_eq, ← peek_congr _ (read8_storageOf s.regs.sp s) hp]; rfl

/-- Settles O13: the two bytes are in two cells, so the second store leaves the first alone, and each is read back. -/
theorem stackRoundTrip : Obligations.StackRoundTrip := by
  intro v s c d hc hd hcd hhalf htc htd
  set u := setCell (setCell s (hi8 v) c) (lo8 v) d with hu
  have hpushed : push16 v s = u.setSP (s.regs.sp - 2) := push16_cells v hc hd htc htd
  have hcell (a : Addr) : cellOf u a = cellOf s a := cellOf_congr (by simp [hu]) (by simp [hu]) a
  have hhigh : peek u (s.regs.sp - 1) = hi8 v := by
    rw [peek_cell ((hcell _).trans hc), hu, cellValue_setCell_ne _ _ hcd, cellValue_setCell_byte _ _ hhalf]
  have hlow : peek u (s.regs.sp - 2) = lo8 v := by
    rw [peek_cell ((hcell _).trans hd), hu, cellValue_setCell_byte _ _ (by rw [setCell_mapper, hhalf])]
  have hsp : s.regs.sp - 2 + 1 = s.regs.sp - 1 := (sp_neighbours s.regs.sp).symm
  have hpeek {a : Addr} {e : Cell} (ha : cellOf s a = some e) : peek (u.setSP (s.regs.sp - 2)) a = peek u a :=
    peek_congr a (storageOf_setSP u _) (isPort_of_cell ((hcell a).trans ha))
  have hword : (pop16 (u.setSP (s.regs.sp - 2))).1 =
      mk16 (peek (u.setSP (s.regs.sp - 2)) (s.regs.sp - 2 + 1)) (peek (u.setSP (s.regs.sp - 2)) (s.regs.sp - 2)) :=
    pop16_word (by rw [State.setSP]; dsimp only; rw [hsp]; exact isPort_of_cell ((hcell _).trans hc))
  constructor
  · rw [hpushed, hword, hsp, hpeek hc, hpeek hd, hhigh, hlow, mk16_hi8_lo8]
  · rw [pop16_regs, push16_regs]
    simp only [BitVec.sub_add_cancel]

end Sys2Proof.Machine
end

section
/-! PROOFS. The DMA copy (20_memory.md R80): what OAM holds while it runs, and that nothing else changes. -/

namespace Sys2Proof.Machine

/-! ### The addresses of the copy -/

/-- The address of source byte `i` of page `b`. -/
def dmaSource (b : Byte) (i : Nat) : Addr := BitVec.ofNat 16 (b.toNat * 0x100 + i)

theorem toNat_dmaSource (b : Byte) {i : Nat} (hi : i < dmaLength) : (dmaSource b i).toNat = b.toNat * 0x100 + i := by
  have hb := b.isLt
  have hi' : i < 160 := hi
  rw [dmaSource, BitVec.toNat_ofNat, Nat.mod_eq_of_lt (by omega)]

/-- The address of OAM byte `i`. -/
def oamAddr (i : Nat) : Addr := BitVec.ofNat 16 (0xFE00 + i)

theorem toNat_oamAddr {i : Nat} (hi : i < dmaLength) : (oamAddr i).toNat = 0xFE00 + i := by
  have hi' : i < 160 := hi
  rw [oamAddr, BitVec.toNat_ofNat, Nat.mod_eq_of_lt (by omega)]

theorem regionOf_oamAddr {i : Nat} (hi : i < dmaLength) : regionOf (oamAddr i) = .oam := by
  have hi' : i < 160 := hi
  rw [regionOf_iff, toNat_oamAddr hi]
  simp only [Region.bounds]
  omega

theorem peek_oamAddr (s : State) {i : Nat} (hi : i < dmaLength) : peek s (oamAddr i) = ramByte .oam s.oam i := by
  rw [peek, (access_oam 0 s (regionOf_oamAddr hi)).1, toNat_oamAddr hi, Nat.add_sub_cancel_left]

/-- A source byte in OAM is the byte that it is copied to. -/
theorem dmaSource_in_oam {b : Byte} {i : Nat} (hi : i < dmaLength) (h : regionOf (dmaSource b i) = .oam) : dmaSource b i = oamAddr i := by
  have hi' : i < 160 := hi
  have hrange := (regionOf_iff _ .oam).1 h
  rw [toNat_dmaSource b hi] at hrange
  simp only [Region.bounds] at hrange
  apply BitVec.eq_of_toNat_eq
  rw [toNat_dmaSource b hi, toNat_oamAddr hi]
  omega

/-! ### The copy, byte by byte -/

/-- The state during a copy from page `b` that began in `s`, before byte `n`: OAM alone has changed; below `n` it holds what the page
showed, from `n` on what it held. -/
structure CopiedTo (b : Byte) (s : State) (n : Nat) (t : State) : Prop where
  storage : ∃ oam, storageOf t = { storageOf s with oam := oam }
  copied  : ∀ i < n, isPort s (dmaSource b i) = false → ramByte .oam t.oam i = peek s (dmaSource b i)
  later   : ∀ i, n ≤ i → ramByte .oam t.oam i = ramByte .oam s.oam i

/-- The next source byte still shows what it did. -/
theorem CopiedTo.peek_source {b : Byte} {s t : State} {n : Nat} (h : CopiedTo b s n t) (hn : n < dmaLength)
    (hp : isPort s (dmaSource b n) = false) : peek t (dmaSource b n) = peek s (dmaSource b n) := by
  by_cases hr : regionOf (dmaSource b n) = .oam
  · rw [dmaSource_in_oam hn hr, peek_oamAddr t hn, peek_oamAddr s hn, h.later n le_rfl]
  · obtain ⟨oam, hoam⟩ := h.storage
    exact peek_oam hoam hp hr

theorem dmaByte_copiedTo {b : Byte} {s t : State} {n : Nat} (h : CopiedTo b s n t) (hn : n < dmaLength) :
    CopiedTo b s (n + 1) (dmaByte b t n) := by
  have hbyte := dmaByte_storageOf b t n hn
  have hoam : (dmaByte b t n).oam = Memory.set t.oam n (peek t (dmaSource b n)) := congrArg Storage.oam hbyte
  have hset (i : Nat) (hi : i ≠ n) : ramByte .oam (dmaByte b t n).oam i = ramByte .oam t.oam i := by
    rw [hoam, ramByte, Memory.get_set_ne _ _ hi, ramByte]
  refine ⟨?_, fun i hi hp => ?_, fun i hi => ?_⟩
  · obtain ⟨oam, ht⟩ := h.storage
    exact ⟨_, by rw [hbyte, ht]⟩
  · by_cases hin : i = n
    · subst hin; rw [hoam, ramByte_set_self, h.peek_source hn hp]
    · rw [hset i hin, h.copied i (by omega) hp]
  · rw [hset i (by omega), h.later i (by omega)]

theorem dmaCopy_copiedTo (b : Byte) (s : State) : CopiedTo b s dmaLength (dmaCopy b s) := by
  have hprefix : ∀ n ≤ dmaLength, CopiedTo b s n ((List.range n).foldl (dmaByte b) s) := by
    intro n
    induction n with
    | zero => exact fun _ => ⟨⟨_, rfl⟩, fun i hi => absurd hi (Nat.not_lt_zero i), fun _ _ => rfl⟩
    | succ n ih =>
      intro hn
      rw [List.range_succ, List.foldl_append]
      exact dmaByte_copiedTo (ih (by omega)) hn
  exact hprefix dmaLength le_rfl

/-- The DMA register of a legal configuration is an address of the I/O range, and not that of `IF` (00_scope.md R9). -/
theorem dmaAddr_of_wf {cfg : Config} (h : cfg.wf = true) : regionOf cfg.dmaAddr = .io ∧ cfg.dmaAddr ≠ cfg.ifAddr := by
  simp only [Config.wf, isIoAddr, Bool.and_eq_true, decide_eq_true_eq] at h
  obtain ⟨⟨_, hlow, hhigh⟩, hne⟩ := h
  exact ⟨(regionOf_iff _ .io).2 ⟨hlow, Nat.lt_succ_of_le hhigh⟩, Ne.symm hne⟩

/-- The DMA register shows at its own address alone. -/
theorem peek_dma (s : State) (b : Byte) {a : Addr} (h : a ≠ s.cfg.dmaAddr) : peek { s with dma := b } a = peek s a := by
  simp only [peek, read8]
  cases regionOf a with
  | vram => dsimp only; split <;> rfl
  | io => dsimp only; rw [if_neg h, if_neg h]; split <;> [rfl; (split <;> rfl)]
  | _ => rfl

/-- Settles O54: storing `b` in the register changes no other cell, and the copy that follows is `dmaCopy_copiedTo`. -/
theorem dmaCopyFillsOam : Obligations.DmaCopy := by
  intro s b hwf t
  obtain ⟨hio, hne⟩ := dmaAddr_of_wf hwf
  have hwrite : t = dmaCopy b { s with dma := b } := (access_dma b s hio hne rfl).2
  have hcopy := dmaCopy_copiedTo b { s with dma := b }
  rw [← hwrite] at hcopy
  obtain ⟨oam, hoam⟩ := hcopy.storage
  refine ⟨congrArg Storage.dma hoam, fun i hi hp hsource => ?_, fun a hp ha hrange => ?_, ?_, ?_, ?_, ?_, ?_⟩
  · rw [← peek_dma s b hsource]
    exact (peek_oamAddr t hi).trans (hcopy.copied i hi hp)
  · rw [← peek_dma s b ha]
    exact peek_oam hoam hp fun hr => hrange ((regionOf_iff a .oam).1 hr)
  · exact write8_regs _ b s
  · exact write8_ime _ b s
  · exact write8_imePending _ b s
  · exact write8_halted _ b s
  · exact write8_cycles _ b s

end Sys2Proof.Machine
end

section
/-! PROOFS. The cartridge without a banking chip (20_memory.md R95, R96) and with MBC3 (R104), by the lemmas about the two windows. -/

namespace Sys2Proof.Machine

/-- Settles O56: the ROM window shows the image itself, the RAM window the array, each as far as it goes. -/
theorem unbankedCartridge : Obligations.UnbankedCartridge := by
  intro s a v hm i
  have hrom (h : a.toNat < 0x8000) : read8 a s = (romByte s.cfg.rom a.toNat, s) := by
    rw [read8_rom s h, cartRomRead, cartRomIndex, hm]
  have hram : cartRamIndex s a = inXram s.cfg i := by simp only [cartRamIndex, hm, i]
  refine ⟨fun h => ⟨hrom h, ?_⟩, fun h hsize => ?_, fun h h' hi => ?_, fun h h' hi => ?_⟩
  · rw [write8_rom v s h, hm, mapperWrite, ← hm]
  · rw [hrom h, romByte, if_neg (by omega)]
  · exact xram_shown v h h' (by rw [hram, inXram, if_pos hi]) (by rw [hm]; rfl)
  · exact xram_hidden v h h' (by rw [hram, inXram, if_neg (by omega)])

section
variable {a : Addr} (r : Mbc3) (v : Byte)

theorem mbc3Write_ramEn (h : a.toNat < 0x2000) :
    mbc3Write r a v = { r with ramEn := decide (v.toNat % 16 = 0x0A) } := by
  rw [mbc3Write, if_pos h, enablesRam_eq]

theorem mbc3Write_romBank (h : 0x2000 ≤ a.toNat) (h' : a.toNat < 0x4000) :
    mbc3Write r a v = { r with romBank := if v.toNat % 128 = 0 then 1 else BitVec.ofNat 7 (v.toNat % 128) } := by
  rw [mbc3Write, if_neg (by omega), if_pos h', atLeastOne_setWidth]; rfl

theorem mbc3Write_sel (h : 0x4000 ≤ a.toNat) (h' : a.toNat < 0x6000) :
    mbc3Write r a v = { r with sel := BitVec.ofNat 4 (v.toNat % 16) } := by
  rw [mbc3Write, if_neg (by omega), if_neg (by omega), if_pos h', setWidth_eq_ofNat_mod]; rfl

theorem mbc3Write_above (h : 0x6000 ≤ a.toNat) : mbc3Write r a v = r := by
  rw [mbc3Write, if_neg (by omega), if_neg (by omega), if_neg (by omega)]

end

/-- Settles O59: the register written by the range of the address, the windows by the lemmas of every chip; the gate has two conditions. -/
theorem mbc3Cartridge : Obligations.Mbc3Cartridge := by
  intro s r a v hm
  have hwrite (h : a.toNat < 0x8000) : write8 a v s = { s with mapper := .mbc3 (mbc3Write r a v) } := by
    rw [write8_rom v s h, hm]; rfl
  obtain ⟨hlow, hhigh⟩ := read8_bankedRom (s := s) (a := a) (low := 0) (high := r.romBank.toNat) (by simp only [cartRomIndex, hm])
  refine ⟨fun h => ?_, fun h h' => ?_, fun h h' => ?_, fun h h' => ?_, hlow, hhigh, fun h h' => ?_⟩
  · rw [hwrite (by omega), mbc3Write_ramEn r v h]
  · rw [hwrite (by omega), mbc3Write_romBank r v h h']
  · rw [hwrite (by omega), mbc3Write_sel r v h h']
  · rw [hwrite h', mbc3Write_above r v h, ← hm]
  · rw [← and_assoc]
    exact xram_gated v h h' (by rw [hm]; rfl) (by simp only [cartRamIndex, hm])

end Sys2Proof.Machine
end

section
/-! PROOFS. Loading an image (20_memory.md R88 to R93): the image holds the bytes it was made of, and the three codes of its header select by
the tables of R91 to R93; then the reset values (10_state.md R36). -/

namespace Sys2Proof.Machine

/-! ### The image -/

theorem get_ofBytes (l : List Byte) (i j : Nat) : Memory.get (Memory.ofBytes i l) (i + j) = l[j]? := by
  induction l generalizing i j with
  | nil => rfl
  | cons b t ih =>
    rw [Memory.ofBytes, Memory.get]
    cases j with
    | zero => rw [if_pos (Nat.add_zero i)]; rfl
    | succ j => rw [if_neg (by omega), List.getElem?_cons_succ, ← ih (i + 1) j, Nat.add_right_comm, Nat.add_assoc]

/-- In a canonical memory an index is listed once, so a filter drops its byte or leaves it. -/
theorem get_filter {m : Memory} {lo : Nat} (p : Host.Cell → Bool) (hm : Memory.risingFrom lo m = true) (i : Nat) :
    Memory.get (m.filter p) i = (Memory.get m i).filter fun v => p (i, v) := by
  induction m generalizing lo with
  | nil => rfl
  | cons c t ih =>
    obtain ⟨k, w⟩ := c
    simp only [Memory.risingFrom, Bool.and_eq_true] at hm
    have htail := ih hm.2
    by_cases hi : i = k
    · subst hi
      have hnone : Memory.get t i = none := Memory.get_of_lt hm.2 (Nat.lt_succ_self i)
      rw [hnone] at htail
      cases hp : p (i, w) <;> simp [Memory.get, Option.filter, hp, htail]
    · cases hp : p (k, w) <;> simp [Memory.get, hp, hi, htail]

/-- The image of a list of bytes holds these bytes. -/
theorem romByte_romOfBytes {l : List Byte} {i : Nat} (h : i < l.length) : romByte (romOfBytes l) i = l[i] := by
  have hget := get_ofBytes l 0 i
  rw [Nat.zero_add, List.getElem?_eq_getElem h] at hget
  rw [romByte, romOfBytes, if_pos h, get_filter _ (Memory.risingFrom_ofBytes 0 l), hget]
  by_cases hz : l[i] = 0#8
  · simp [Option.filter, hz]
  · simp [Option.filter, hz]

theorem romByte_romOfBytes_getD {l : List Byte} {i : Nat} (h : i < l.length) : romByte (romOfBytes l) i = l.getD i 0 := by
  rw [romByte_romOfBytes h, List.getD_eq_getElem _ _ h]

/-! ### The tables of the header codes -/

/-- The table of R91, code by code. -/
theorem mapperOfCode_table (code : Byte) :
    (code ∈ [0x00#8, 0x08, 0x09] → mapperOfCode code = .unbanked) ∧
    (code ∈ [0x01#8, 0x02, 0x03] → mapperOfCode code = .mbc1) ∧
    (code ∈ [0x05#8, 0x06] → mapperOfCode code = .mbc2) ∧
    (code ∈ [0x0F#8, 0x10, 0x11, 0x12, 0x13] → mapperOfCode code = .mbc3) ∧
    (code ∈ [0x15#8, 0x16, 0x17] → mapperOfCode code = .mbc4) ∧
    (code ∈ [0x19#8, 0x1A, 0x1B, 0x1C, 0x1D, 0x1E] → mapperOfCode code = .mbc5) ∧
    (mapperOfCode code = .unknown ↔
      code ∉ [0x00#8, 0x08, 0x09, 0x01, 0x02, 0x03, 0x05, 0x06, 0x0F, 0x10, 0x11, 0x12, 0x13, 0x15, 0x16, 0x17, 0x19, 0x1A, 0x1B,
        0x1C, 0x1D, 0x1E]) := by
  revert code; exact byte_forall (by decide +kernel)

/-- The table of R92. -/
theorem romBanksOfCode_table (code : Byte) :
    (code.toNat ≤ 8 → romBanksOfCode code = some (2 * 2 ^ code.toNat)) ∧
    (code = 0x52 → romBanksOfCode code = some 72) ∧ (code = 0x53 → romBanksOfCode code = some 80) ∧
    (code = 0x54 → romBanksOfCode code = some 96) ∧
    (8 < code.toNat → code ∉ [0x52#8, 0x53, 0x54] → romBanksOfCode code = none) := by
  revert code; exact byte_forall (by decide +kernel)

/-- The table of R93. -/
theorem xramSizeOfCode_table (code : Byte) :
    (code.toNat ≤ 5 → xramSizeOfCode code = some ([0, 2048, 8192, 32768, 131072, 65536].getD code.toNat 0)) ∧
    (5 < code.toNat → xramSizeOfCode code = none) := by
  revert code; exact byte_forall (by decide +kernel)

/-- The configuration that the three codes of a header select (R91 to R93). -/
def headerConfig (image : List Byte) (code size ram : Byte) : Config :=
  { rom := romOfBytes image
    mapper := mapperOfCode code
    romBanks := (romBanksOfCode size).getD 2
    xramSize := if mapperOfCode code = .mbc2 then mbc2Cells else (xramSizeOfCode ram).getD 0 }

theorem headerConfig_xramSize {image : List Byte} {code size ram : Byte} (h : mapperOfCode code ≠ .mbc2) :
    (headerConfig image code size ram).xramSize = (xramSizeOfCode ram).getD 0 := if_neg h

/-- The anomalies of the three codes. -/
def headerAnomalies (code size ram : Byte) : List Anomaly :=
  (if mapperOfCode code = .unknown then [Anomaly.unknownMapperCode code] else []) ++
  (if romBanksOfCode size = none then [Anomaly.unknownSizeCode 0x148 size] else []) ++
  (if xramSizeOfCode ram = none then [Anomaly.unknownSizeCode 0x149 ram] else [])

/-- An image with a whole header loads, as its three codes say. -/
theorem loadCartridge_ok {image : List Byte} (h : 0x150 ≤ image.length) :
    loadCartridge image =
      .ok (headerConfig image (image.getD 0x147 0) (image.getD 0x148 0) (image.getD 0x149 0),
        headerAnomalies (image.getD 0x147 0) (image.getD 0x148 0) (image.getD 0x149 0)) := by
  have hmin : ¬ image.length < minImageSize := Nat.not_lt.2 h
  rw [loadCartridge, if_neg hmin]
  dsimp only
  rw [romByte_romOfBytes_getD (by omega), romByte_romOfBytes_getD (by omega),
    romByte_romOfBytes_getD (by omega)]
  rfl

theorem unknownMapperCode_mem (code size ram : Byte) :
    .unknownMapperCode code ∈ headerAnomalies code size ram ↔ mapperOfCode code = .unknown := by
  simp only [headerAnomalies, List.mem_append, List.mem_ite_nil_right, List.mem_singleton, reduceCtorEq, and_false, or_false, and_true]

theorem unknownRomSize_mem {code size ram : Byte} (h : romBanksOfCode size = none) :
    .unknownSizeCode 0x148 size ∈ headerAnomalies code size ram := by
  simp [headerAnomalies, h]

theorem unknownRamSize_mem {code size ram : Byte} (h : xramSizeOfCode ram = none) :
    .unknownSizeCode 0x149 ram ∈ headerAnomalies code size ram := by
  simp [headerAnomalies, h]

/-- Settles O55: the three tables, read at the codes that `romByte` finds in the header. -/
theorem loadCartridgeByHeader : Obligations.LoadCartridge := by
  intro image
  refine ⟨fun h => if_pos h, fun h => ?_⟩
  intro code size ram
  obtain ⟨h0, h1, h2, h3, h4, h5, hunknown⟩ := mapperOfCode_table code
  obtain ⟨hsize, h52, h53, h54, hnosize⟩ := romBanksOfCode_table size
  obtain ⟨hram, hnoram⟩ := xramSizeOfCode_table ram
  refine ⟨headerConfig image code size ram, headerAnomalies code size ram, loadCartridge_ok h, rfl, fun i hi => romByte_romOfBytes hi,
    h0, h1, fun hc => ⟨h2 hc, ?_⟩, h3, h4, h5, ⟨(unknownMapperCode_mem code size ram).symm, hunknown⟩, fun hs => ?_, fun hs => ?_,
    fun hs => ?_, fun hs => ?_, fun hs hs' => ⟨?_, unknownRomSize_mem (hnosize hs hs')⟩, fun hm hr => ?_,
    fun hr => unknownRamSize_mem (hnoram hr), fun hm hr => ?_, fun hm hs hr => ?_⟩
  · rw [headerConfig, if_pos (h2 hc), mbc2Cells]
  · rw [headerConfig, hsize hs, Option.getD_some]
  · rw [headerConfig, h52 hs, Option.getD_some]
  · rw [headerConfig, h53 hs, Option.getD_some]
  · rw [headerConfig, h54 hs, Option.getD_some]
  · rw [headerConfig, hnosize hs hs', Option.getD_none]
  · rw [headerConfig_xramSize hm, hram hr, Option.getD_some]
  · rw [headerConfig_xramSize hm, hnoram hr, Option.getD_none]
  · have hm' : mapperOfCode code ≠ .unknown := hm
    rw [headerAnomalies, if_neg hm', if_neg (by simp [hsize hs]), if_neg (by simp [hram hr])]
    rfl

/-! ### The reset values -/

/-- Settles O46: the blank cartridge is legal, and every array is empty. -/
theorem resetInv : Obligations.ResetInv := by
  constructor <;> decide

theorem preloadXram_none {cfg : Config} (h : cfg.xramInit = none) : preloadXram cfg = [] := by
  rw [preloadXram, h]
  split <;> rfl

theorem preloadXram_some {cfg : Config} {bytes : List Byte} (h : cfg.xramInit = some bytes) (hm : cfg.mapper ≠ .mbc2) :
    preloadXram cfg = Memory.ofBytes 0 bytes := by
  rw [preloadXram, h, if_neg hm, Option.getD_some]

/-- Settles O47: the values of R36 at power-on and at the reset line; the arrays start empty, but for the preload. -/
theorem resetValues : Obligations.ResetValues := by
  intro cfg loaded s zeroed
  have hpower (c : Config) (l : List Anomaly) : zeroed (State.powerOn c l) :=
    ⟨rfl, rfl, rfl, rfl, rfl, rfl, rfl, rfl, rfl, rfl, rfl, rfl, rfl, rfl, rfl, rfl, by
      simp only [State.powerOn]; cases c.mapper <;> rfl⟩
  have hline : zeroed s.onReset :=
    ⟨rfl, rfl, rfl, rfl, rfl, rfl, rfl, rfl, rfl, rfl, rfl, rfl, rfl, rfl, rfl, rfl, by
      simp only [State.onReset]; cases s.cfg.mapper <;> rfl⟩
  refine ⟨hpower Config.blank [], ⟨hpower cfg loaded, rfl, fun _ _ => rfl, fun _ _ => rfl, fun _ _ => rfl, fun h i => ?_,
    fun bytes h hm i hi => ?_⟩, hline, rfl, rfl, rfl, rfl, rfl, rfl⟩
  · rw [State.powerOn, preloadXram_none h]; rfl
  · have hget := get_ofBytes bytes 0 i
    rw [Nat.zero_add, List.getElem?_eq_getElem hi] at hget
    rw [State.powerOn, preloadXram_some h hm, ramByte, hget, Option.getD_some]

end Sys2Proof.Machine
end
